-- ==== Sys2Proof/Word.lean ====
section
/-! DEFINITION. The word types of the keying core (00_scope.md R7, R8): bit 0 is the least significant bit of every word. -/

namespace Sys2Proof

/-- `MADDR_W` = `OSC_W` = `PWM_W` = 8 bits, and one byte of the decode table (R7). -/
abbrev Byte := BitVec 8

/-- The 16-bit operation word (30_encoding.md R80). -/
abbrev OpWord := BitVec 16

/-- `TICK_W` = 32 bits: the tick counter and the deadline (R7). -/
abbrev Tick := BitVec 32

/-- `DUR_W` = 16 bits: one timing-profile register, in milliseconds (R7). -/
abbrev Duration := BitVec 16

end Sys2Proof
end

