-- ==== Sys2Proof/Machine/Constants.lean ====
section
/-! DEFINITION. The constants whose value the spec fixes (00_scope.md R7). The open parameters are in Config.lean. -/

namespace Sys2Proof.Machine

/-- `C`: milliseconds times words per minute (R7, R110). -/
def ditConstant : Nat := 1200

/-- `WPM_MIN` (R7). -/
def wpmMin : Nat := 10

/-- `WPM_MAX` (R7). -/
def wpmMax : Nat := 60

/-- `WILDCARD` = 0x2A, the byte of an out-of-range or unmapped address (R7, 43_morse_decoder.md R176). -/
def wildcard : Byte := 0x2A

/-- `PWM_MID` = 128: silence (R7, 30_encoding.md R96). -/
def pwmMid : Nat := 128

/-- The sentinel: the Morse address with no symbol (10_state.md R26). -/
def sentinel : Byte := 1

end Sys2Proof.Machine
end

