-- ==== Sys2Proof/Syntax.lean ====
section
/-! DEFINITION. The operations of the keying core: one constructor per row of spec/opcode_table.json (00_scope.md R5; 30_encoding.md R81, R89). -/

namespace Sys2Proof

/-- The keyer mode (30_encoding.md R84, 10_state.md R28); its number is `Mode.code` in Decode.lean. -/
inductive Mode where
  | straight
  | iambicA
  | iambicB
  | ultimatic
  deriving DecidableEq, Repr, Inhabited

/-- One constructor per row of the opcode table. The first ten are the operations that have a word of their own
(rows of format `OP`); the last seven are the arms of `POLL` (rows of format `POLLARM`, R89), which share `POLL`'s
word and stand for a `POLL` in a state that selects that arm (log entry 7). -/
inductive Instr where
  /-- `POLL a1 a2 b1 b2`: first and second sample of line A, then of line B; `true` = asserted (R82, R140). -/
  | poll (a1 a2 b1 b2 : Bool)
  /-- `MSTICK` (R130). -/
  | mstick
  /-- `AUDIOTICK` (R185). -/
  | audiotick
  /-- `SETWPM n` (R110). -/
  | setwpm (n : Byte)
  /-- `SETMODE m` (R115). -/
  | setmode (m : Mode)
  /-- `SETSWAP b` (R116). -/
  | setswap (b : Bool)
  /-- `SETTONE t` (R117). -/
  | settone (t : Bool)
  /-- `SETVOL v` (R118). -/
  | setvol (v : Byte)
  /-- `SETREC b` (R119). -/
  | setrec (b : Bool)
  /-- `RESET` (R200). -/
  | reset
  /-- `POLL.STRAIGHT` (R143). -/
  | pollStraight (a1 a2 b1 b2 : Bool)
  /-- `POLL.IDLE` (R144). -/
  | pollIdle (a1 a2 b1 b2 : Bool)
  /-- `POLL.EVAL` (R145). -/
  | pollEval (a1 a2 b1 b2 : Bool)
  /-- `POLL.SEND` (R146). -/
  | pollSend (a1 a2 b1 b2 : Bool)
  /-- `POLL.IEG` (R147). -/
  | pollIeg (a1 a2 b1 b2 : Bool)
  /-- `POLL.LGAP` (R148). -/
  | pollLgap (a1 a2 b1 b2 : Bool)
  /-- `POLL.WGAP` (R149). -/
  | pollWgap (a1 a2 b1 b2 : Bool)
  deriving DecidableEq, Repr

end Sys2Proof
end

