-- ==== Sys2Proof/Machine/Registers.lean ====
section
/-! DEFINITION. The types of the machine's registers and events (10_state.md R22, R23, R27, R31). -/

namespace Sys2Proof.Machine

/-- The sequencer register `kstate` (R22). The codes 6 and 7 do not exist (30_encoding.md R90). -/
inductive KState where
  /-- Idle. -/
  | idle
  /-- EvaluatePaddles. -/
  | eval
  /-- SendingElement. -/
  | send
  /-- InterElementGap. -/
  | ieg
  /-- LetterGap. -/
  | lgap
  /-- WordGap. -/
  | wgap
  deriving DecidableEq, Repr, Inhabited

/-- The PaddleFlags register (R23); its bit layout is `Flags.bits` in Flags.lean (30_encoding.md R91). -/
structure Flags where
  /-- `DIT`, dit-pressed. -/
  dit : Bool
  /-- `DAH`, dah-pressed. -/
  dah : Bool
  /-- `WASDIT`, was-last-symbol-dit. -/
  wasdit : Bool
  /-- `SQZ`, squeeze. -/
  sqz : Bool
  deriving DecidableEq, Repr, Inhabited

/-- The TimingProfile: seven durations in milliseconds (R27). -/
structure Profile where
  /-- `t_dit`. -/
  tDit : Duration
  /-- `t_dah`. -/
  tDah : Duration
  /-- `t_ieg`. -/
  tIeg : Duration
  /-- `t_lgap_dec`. -/
  tLgapDec : Duration
  /-- `t_lgap_send`. -/
  tLgapSend : Duration
  /-- `t_wgap_dec`. -/
  tWgapDec : Duration
  /-- `t_wgap_send`. -/
  tWgapSend : Duration
  deriving DecidableEq, Repr, Inhabited

/-- One Morse element (30_encoding.md R93). -/
inductive Symbol where
  | dit
  | dah
  deriving DecidableEq, Repr, Inhabited

/-- An output event (00_scope.md R11). -/
inductive Event where
  /-- `ACTIVITY` (R133). -/
  | activity
  /-- `CHAR(c)` (R176). -/
  | char (c : Byte)
  /-- `REC(c)` (R177). -/
  | record (c : Byte)
  /-- `CLRLINE` (R174). -/
  | clrline
  /-- `WORD` (R149). -/
  | word
  deriving DecidableEq, Repr

/-- The seven arms of `POLL` (30_encoding.md R89). -/
inductive Arm where
  | straight
  | idle
  | eval
  | send
  | ieg
  | lgap
  | wgap
  deriving DecidableEq, Repr

/-- The registers that `RESET` leaves unspecified and that it does own (45_system_ops.md R200; `tick` is kept). -/
structure LeftByReset where
  ktimer : Tick
  profile : Profile
  wpm : Byte
  mode : Mode
  swap : Bool
  tone : Bool
  vol : Byte
  record : Bool
  deriving DecidableEq, Repr, Inhabited

end Sys2Proof.Machine
end

