-- ==== Sys2Proof/Config.lean ====
section
/-! DEFINITION. What the spec leaves open: the parameters no document fixes (93_implementation_defined.md P1 to P8)
and the free values of registers that `RESET` leaves unspecified (45_system_ops.md R200). -/

namespace Sys2Proof

/-- The open parameters of 00_scope.md R7 with the constraints the spec puts on them. The default of each field only
shows that the constraints can be met together; no default is a claim about the hardware (log entry 5). -/
structure Params where
  /-- `DECODE_TABLE`: one byte per address 0 to 127 (20_memory.md R60, R62). -/
  decodeTable : Fin 128 → Byte := fun a =>
    if a = 2 then 0x45 else if a = 3 then 0x54 else if a = 5 then 0x41 else Machine.wildcard
  /-- `ADDR_BREAK` (43_morse_decoder.md R175). -/
  addrBreak : Byte := 254
  /-- `ADDR_SK` (R175). -/
  addrSk : Byte := 255
  /-- `OSC_SHIFT` (44_sidetone_oscillator.md R187). -/
  oscShift : Nat := 1
  /-- `DELTA_0` (R189). -/
  delta0 : Nat := 1
  /-- `DELTA_1` (R189). -/
  delta1 : Nat := 1
  /-- `COS_INIT` (R186). -/
  cosInit : Nat := 1
  /-- `VOL_MAX` (R190). -/
  volMax : Nat := 0
  /-- `AUDIO_HZ`, "read by no rule" (R7). -/
  audioHz : Nat := 0
  /-- `DECODE_TABLE[2]` = `E` (R62). -/
  table_dit : decodeTable 2 = 0x45 := by decide
  /-- `DECODE_TABLE[3]` = `T` (R62). -/
  table_dah : decodeTable 3 = 0x54 := by decide
  /-- `DECODE_TABLE[5]` = `A` (R62). -/
  table_ditdah : decodeTable 5 = 0x41 := by decide
  /-- DEDUCED (log entry 6): address 0 carries no character (93_implementation_defined.md P1). -/
  table_zero : decodeTable 0 = Machine.wildcard := by decide
  /-- DEDUCED (log entry 6): the bare sentinel carries no character (P1; R62). -/
  table_sentinel : decodeTable 1 = Machine.wildcard := by decide
  /-- The prosign addresses are distinct (R175). -/
  prosigns_distinct : addrBreak ≠ addrSk := by decide
  /-- `ADDR_BREAK` is none of 0, 1, 2, 3, 5 (R175). -/
  break_legal : addrBreak ∉ ([0, 1, 2, 3, 5] : List Byte) := by decide
  /-- `ADDR_SK` is none of 0, 1, 2, 3, 5 (R175). -/
  sk_legal : addrSk ∉ ([0, 1, 2, 3, 5] : List Byte) := by decide
  /-- 0 < `DELTA_0` (R7). -/
  delta0_pos : 0 < delta0 := by decide
  /-- `DELTA_0` < 2^`OSC_SHIFT` (R7). -/
  delta0_lt : delta0 < 2 ^ oscShift := by decide
  /-- 0 < `DELTA_1` (R7). -/
  delta1_pos : 0 < delta1 := by decide
  /-- `DELTA_1` < 2^`OSC_SHIFT` (R7). -/
  delta1_lt : delta1 < 2 ^ oscShift := by decide
  /-- 0 < `COS_INIT` (R7). -/
  cosInit_pos : 0 < cosInit := by decide
  /-- `COS_INIT` < 2^(`OSC_W`-1) (R7). -/
  cosInit_lt : cosInit < 128 := by decide
  deriving Inhabited

/-- This hardware's values of the open parameters: constrained by their type, otherwise unknown (log entry 5). -/
opaque Config.params : Params

/-- What the registers that `RESET` leaves unspecified hold after it: any value, a fresh one at each `RESET`
(45_system_ops.md R200; 93_implementation_defined.md U2 to U4; log entry 3). -/
opaque Config.leftByReset : Nat → Machine.LeftByReset

end Sys2Proof
end

