-- ==== Sys2Proof/Machine/State.lean ====
section
/-! DEFINITION. The state of the keying core as plain data (10_state.md R20 to R31), its outcomes (00_scope.md R12)
and the state after reset (10_state.md R34). -/

namespace Sys2Proof.Machine

/-- There is no fault: "Exactly two: the next state (with the events emitted), or *refuse*" (00_scope.md R12);
"The block raises no synchronous exception" (60_exceptions.md R210). Nobody raises one. -/
inductive Fault where
  deriving DecidableEq, Repr

/-- Why an operation is not admitted (00_scope.md R12). Every one is safe: the model says nothing about such an input. -/
inductive Refusal where
  /-- Raised by an arm of `exec` whose instruction has no meaning yet; no arm raises it now. Safe. -/
  | notModelled (mnemonic : String)
  /-- Raised by `step` on a word with a reserved opcode or a non-zero must-be-zero bit (30_encoding.md R87, R201). Safe. -/
  | illegalWord (w : OpWord)
  /-- Raised by `SETWPM n` with `n` outside 10..60 (40_timing_profile_config.md R110). Safe. -/
  | wpmOutOfRange (n : Byte)
  /-- Raised by `SETVOL v` with `v` > `VOL_MAX` (R118). Safe. -/
  | volOutOfRange (v : Byte)
  /-- Raised by `POLL` and its arms when configuration they need is unwritten (70_reset_and_hazards.md R236). Safe. -/
  | pollConfigUnwritten
  /-- Raised by `AUDIOTICK` with `tx` = 1 when `tone` or `vol` is unwritten (R236). Safe. -/
  | audioConfigUnwritten
  /-- Raised by an arm's own row (`POLL.IDLE` and so on) in a state where `POLL` runs another arm (30_encoding.md R89):
  that arm does not execute there. Never raised by `step`, since the decoder answers `POLL`. Safe (log entry 7). -/
  | armNotSelected
  deriving DecidableEq, Repr

/-- The architectural state. -/
structure State where
  /-- The millisecond counter (R21). -/
  tick : Tick
  /-- The sequencer (R22). -/
  kstate : KState
  /-- The PaddleFlags (R23). -/
  flags : Flags
  /-- The deadline (R24). -/
  ktimer : Tick
  /-- The transmit flag, an output level (R25). -/
  tx : Bool
  /-- The Morse address (R26). -/
  maddr : Byte
  /-- The timing profile (R27). -/
  profile : Profile
  /-- `prof_valid` (R27). -/
  profValid : Bool
  /-- Words per minute (R28). -/
  wpm : Byte
  /-- The keyer mode (R28). -/
  mode : Mode
  /-- Key swap (R28). -/
  swap : Bool
  /-- Tone select (R28). -/
  tone : Bool
  /-- Volume (R28). -/
  vol : Byte
  /-- The record flag `rec` (R28). -/
  record : Bool
  /-- `wpm_w` (R28). -/
  wpmW : Bool
  /-- `mode_w` (R28). -/
  modeW : Bool
  /-- `swap_w` (R28). -/
  swapW : Bool
  /-- `tone_w` (R28). -/
  toneW : Bool
  /-- `vol_w` (R28). -/
  volW : Bool
  /-- `rec_w` (R28). -/
  recW : Bool
  /-- The sine register, two's complement (R29). -/
  sinv : Byte
  /-- The cosine register, two's complement (R29). -/
  cosv : Byte
  /-- The PWM output register, an output level (R30). -/
  pwm : Byte
  /-- The output trace, oldest event first (R31; log entry 8). -/
  trace : List Event
  /-- The operation words still to be executed, in the total order of 20_memory.md R66 (the model's own field, log entry 1). -/
  schedule : List OpWord
  /-- Which free value the next `RESET` takes (the model's own field, log entries 3 and 4). -/
  freeCtr : Nat
  deriving DecidableEq, Repr

/-- All four flags clear (R34). -/
def Flags.clear : Flags := ⟨false, false, false, false⟩

/-- DESIGN CHOICE (log entry 2): the profile registers are unspecified at reset (R34). -/
def Profile.zero : Profile := ⟨0, 0, 0, 0, 0, 0, 0⟩

/-- The state right after reset (10_state.md R34, 70_reset_and_hazards.md R231). The values of `tick`, `ktimer`, the
profile and the six configuration registers are unspecified there: DESIGN CHOICE zero (log entry 2). -/
def State.reset : State where
  tick := 0
  kstate := .idle
  flags := Flags.clear
  ktimer := 0
  tx := false
  maddr := sentinel
  profile := Profile.zero
  profValid := false
  wpm := 0
  mode := .straight
  swap := false
  tone := false
  vol := 0
  record := false
  wpmW := false
  modeW := false
  swapW := false
  toneW := false
  volW := false
  recW := false
  sinv := 0
  cosv := BitVec.ofNat 8 Config.params.cosInit
  pwm := BitVec.ofNat 8 pwmMid
  trace := []
  schedule := []
  freeCtr := 0

end Sys2Proof.Machine
end

