-- ==== Sys2Proof/Machine/Ops.lean ====
section
/-! DEFINITION. The named operations over the registers and the decode table that several instructions share:
arithmetic primitives (00_scope.md R9), the deadline (42_keyer_fsm.md R141, R142), the table read (20_memory.md R61),
events (00_scope.md R11), the accumulator (43_morse_decoder.md R171, R173) and the output levels. There is no
exception entry and no return from one: "There is none: no state is saved, no mode changes, no control transfer to a
handler exists inside the block" (60_exceptions.md R215, R216). -/

namespace Sys2Proof.Machine

/-- `wrapu_8` and `wraps_8` of an exact integer: both keep the low 8 bits; the register's type says how they read (R8, R9). -/
def wrap8 (x : Int) : Byte := BitVec.ofInt 8 x

/-- `wrapu_32` of an exact natural number (R9). -/
def wrap32 (x : Nat) : Tick := BitVec.ofNat 32 x

/-- `x asr n` = `floor(x / 2^n)` on an exact integer (R9). -/
def asr (x : Int) (n : Nat) : Int := x / ((2 ^ n : Nat) : Int)

/-- A deadline `d` milliseconds from `now`: `wrapu_32(now + d)` (R24, R141). -/
def deadline (now : Tick) (d : Duration) : Tick := wrap32 (now.toNat + d.toNat)

/-- "*Deadline passed* means `now >u ktimer`: strict, unsigned 32-bit, no wrap handling" (R141). -/
def deadlinePassed (now ktimer : Tick) : Bool := decide (ktimer.toNat < now.toNat)

/-- `MemRead(a, 1)` (R61); an address outside 0 to 127 cannot be written down. -/
def memRead (p : Params) (a : Fin 128) : Byte := p.decodeTable a

/-- `emit`: append to the output trace (R9, R31). -/
def emit (es : List Event) (s : State) : State := { s with trace := s.trace ++ es }

/-- The bit of a symbol: 0 = dit, 1 = dah (30_encoding.md R93). -/
def symbolBit : Symbol → Nat
  | .dit => 0
  | .dah => 1

/-- `PUSH(sym)` on the address: `wrapu_8((maddr shl 1) + sym)` (R171). -/
def pushSymbol (a : Byte) (sym : Symbol) : Byte := BitVec.ofNat 8 (2 * a.toNat + symbolBit sym)

/-- The character of an address that is neither 0 nor a prosign (R176). -/
def resolveChar (p : Params) (a : Byte) : Byte :=
  if h : a.toNat < 128 then memRead p ⟨a.toNat, h⟩ else wildcard

/-- What `RESOLVE` emits for address `a` when the record flag is `record`, the tests in the order of R173. -/
def resolveEvents (p : Params) (a : Byte) (record : Bool) : List Event :=
  if a = 0 then [.clrline]
  else if a = p.addrBreak ∨ a = p.addrSk then []
  else if record then [.char (resolveChar p a), .record (resolveChar p a)]
  else [.char (resolveChar p a)]

/-- `RESOLVE` (R173): the events of the address, then `maddr` back to the sentinel (R178). -/
def resolve (p : Params) (s : State) : State :=
  { emit (resolveEvents p s.maddr s.record) s with maddr := sentinel }

/-- The duration of an element (R142). -/
def elementDuration (pr : Profile) : Symbol → Duration
  | .dit => pr.tDit
  | .dah => pr.tDah

/-- `EnterSend(sym)`: the entry action of SendingElement (42_keyer_fsm.md R142). -/
def enterSend (sym : Symbol) (s : State) : State :=
  { s with
    tx := true
    ktimer := deadline s.tick (elementDuration s.profile sym)
    maddr := pushSymbol s.maddr sym
    kstate := .send }

/-- The profile of a speed `n` (40_timing_profile_config.md R110 to R112): integer multiples of the one truncated
quotient, and the decode letter gap truncated once. -/
def profileOf (n : Nat) : Profile where
  tDit := BitVec.ofNat 16 (ditConstant / n)
  tDah := BitVec.ofNat 16 (3 * (ditConstant / n))
  tIeg := BitVec.ofNat 16 (ditConstant / n)
  tLgapDec := BitVec.ofNat 16 ((5 * ditConstant) / (2 * n))
  tLgapSend := BitVec.ofNat 16 (3 * (ditConstant / n))
  tWgapDec := BitVec.ofNat 16 (3 * (ditConstant / n))
  tWgapSend := BitVec.ofNat 16 (7 * (ditConstant / n))

/-- The number of a sequencer state (30_encoding.md R90). -/
def KState.code : KState → BitVec 3
  | .idle => 0
  | .eval => 1
  | .send => 2
  | .ieg => 3
  | .lgap => 4
  | .wgap => 5

/-- The sequencer state of a number; 6 and 7 name none (R90). -/
def KState.ofCode (c : BitVec 3) : Option KState :=
  match c.toNat with
  | 0 => some .idle
  | 1 => some .eval
  | 2 => some .send
  | 3 => some .ieg
  | 4 => some .lgap
  | 5 => some .wgap
  | _ => none

/-- The output levels a collaborator may sample at any time (00_scope.md R11): `tx`, `pwm` and the profile. -/
def levels (s : State) : Bool × Byte × Profile := (s.tx, s.pwm, s.profile)

end Sys2Proof.Machine
end

