-- ==== Sys2Proof/Machine/Operands.lean ====
section
/-! DEFINITION. The operand forms: the four paddle samples of a `POLL` (30_encoding.md R82; 41_paddle_reader_tick.md
R131, R132) and the ranges of the configuration operands (40_timing_profile_config.md R110, R118). -/

namespace Sys2Proof.Machine

/-- The four samples of a `POLL`, in the order of its operands (R82). -/
structure Samples where
  a1 : Bool
  a2 : Bool
  b1 : Bool
  b2 : Bool
  deriving DecidableEq, Repr

/-- An accepted press on line A: both samples asserted (R131). -/
def lineA (x : Samples) : Bool := x.a1 && x.a2

/-- An accepted press on line B (R131). -/
def lineB (x : Samples) : Bool := x.b1 && x.b2

/-- The dit paddle: line A, or line B when swapped (R132). -/
def ditPressed (swap : Bool) (x : Samples) : Bool := if swap then lineB x else lineA x

/-- The dah paddle: line B, or line A when swapped (R132). -/
def dahPressed (swap : Bool) (x : Samples) : Bool := if swap then lineA x else lineB x

/-- A legal `SETWPM` operand: `WPM_MIN` to `WPM_MAX` (R110). -/
def wpmLegal (n : Byte) : Bool := decide (wpmMin ≤ n.toNat) && decide (n.toNat ≤ wpmMax)

/-- An illegal `SETVOL` operand: above `VOL_MAX` (R118). -/
def volTooBig (p : Params) (v : Byte) : Bool := decide (p.volMax < v.toNat)

end Sys2Proof.Machine
end

