-- ==== Sys2Proof/Machine/Flags.lean ====
section
/-! DEFINITION. Every computation on the PaddleFlags register (10_state.md R23): what the Paddle Reader assigns
(41_paddle_reader_tick.md R131), what the keyer's element choice and the Iambic-B memory write (42_keyer_fsm.md R145,
R147), and the register's bit layout (30_encoding.md R91). -/

namespace Sys2Proof.Machine

/-- The Paddle Reader assigns `DIT`, `DAH` and `SQZ` from this read alone; "`WASDIT` is not touched" (R131). -/
def readerFlags (d h : Bool) (f : Flags) : Flags := { f with dit := d, dah := h, sqz := d && h }

/-- Some paddle is recorded as pressed: `DIT = 1 or DAH = 1`. -/
def keyFound (f : Flags) : Bool := f.dit || f.dah

/-- `WASDIT <- b`. -/
def setWasdit (b : Bool) (f : Flags) : Flags := { f with wasdit := b }

/-- `WASDIT <- not WASDIT` (R145, R147). -/
def toggleWasdit (f : Flags) : Flags := { f with wasdit := !f.wasdit }

/-- `SQZ <- 0 ; WASDIT <- not WASDIT`: the Iambic-B memory is used once (R147). -/
def useSqueeze (f : Flags) : Flags := { f with sqz := false, wasdit := !f.wasdit }

/-- "send what the flag now says": a dit if `WASDIT` = 1, else a dah (R145, R147). -/
def symbolSaid (f : Flags) : Symbol := if f.wasdit then .dit else .dah

/-- "opposite of the recorded last": a dah if `WASDIT` = 1, else a dit (R145). -/
def symbolOpposite (f : Flags) : Symbol := if f.wasdit then .dah else .dit

/-- The register as four bits: `DIT`, `DAH`, `WASDIT`, `SQZ` from bit 0 (R91). -/
def Flags.bits (f : Flags) : BitVec 4 :=
  BitVec.ofBool f.sqz ++ BitVec.ofBool f.wasdit ++ BitVec.ofBool f.dah ++ BitVec.ofBool f.dit

/-- The flags of four bits (R91). -/
def Flags.ofBits (b : BitVec 4) : Flags := ⟨b.getLsbD 0, b.getLsbD 1, b.getLsbD 2, b.getLsbD 3⟩

end Sys2Proof.Machine
end

