-- ==== Sys2Proof/Machine/Paddle.lean ====
section
/-! DEFINITION. The Paddle Reader (41_paddle_reader_tick.md R131 to R135), a procedure only `POLL` invokes. -/

namespace Sys2Proof.Machine

/-- `ACTIVITY`, once per read that accepted at least one press (R133). -/
def readerEvents (d h : Bool) : List Event := if d || h then [.activity] else []

/-- `PaddleRead(a1, a2, b1, b2)` (R131): "Side effect only: flag mutation", and the `ACTIVITY` event. -/
def paddleRead (x : Samples) (s : State) : State :=
  { emit (readerEvents (ditPressed s.swap x) (dahPressed s.swap x)) s with
    flags := readerFlags (ditPressed s.swap x) (dahPressed s.swap x) s.flags }

end Sys2Proof.Machine
end

