-- ==== Sys2Proof/Machine/Poll.lean ====
section
/-! DEFINITION. The keyer state machine and Straight-key mode: `POLL` and its seven arms (42_keyer_fsm.md R140 to R149). -/

namespace Sys2Proof.Machine

/-- The configuration a `POLL` needs is written (70_reset_and_hazards.md R236): `mode` and `swap`, and outside
Straight mode the profile and `rec` as well. -/
def pollReady (s : State) : Bool :=
  s.modeW && s.swapW && (decide (s.mode = .straight) || (s.profValid && s.recW))

/-- The arm that a mode and a sequencer state select (30_encoding.md R89, 42_keyer_fsm.md R140). -/
def selectArm (m : Mode) (k : KState) : Arm :=
  match m, k with
  | .straight, _ => .straight
  | _, .idle => .idle
  | _, .eval => .eval
  | _, .send => .send
  | _, .ieg => .ieg
  | _, .lgap => .lgap
  | _, .wgap => .wgap

/-- "paddle press": the reader runs, and a key found leads to `Eval` (R148, R149). -/
def readForEval (x : Samples) (s : State) : State :=
  if keyFound (paddleRead x s).flags then { paddleRead x s with kstate := .eval } else paddleRead x s

/-- `POLL.STRAIGHT` (R143): `tx` follows the accepted presses of this poll. -/
def armStraight (x : Samples) (s : State) : State :=
  { paddleRead x s with tx := keyFound (paddleRead x s).flags }

/-- `POLL.IDLE` (R144). -/
def armIdle (x : Samples) (s : State) : State :=
  if keyFound (paddleRead x s).flags then { paddleRead x s with kstate := .eval }
  else { paddleRead x s with flags := Flags.clear, maddr := sentinel }

/-- `POLL.EVAL` (R145): the element-choice policy on the latched flags. -/
def armEval (s : State) : State :=
  if s.flags.sqz then
    if s.mode = .ultimatic then enterSend (symbolOpposite s.flags) s
    else enterSend (symbolSaid (toggleWasdit s.flags)) { s with flags := toggleWasdit s.flags }
  else if s.flags.dit && !s.flags.dah then enterSend .dit { s with flags := setWasdit true s.flags }
  else if s.flags.dah && !s.flags.dit then enterSend .dah { s with flags := setWasdit false s.flags }
  else { s with kstate := .idle }

/-- `POLL.SEND` (R146). -/
def armSend (s : State) : State :=
  if deadlinePassed s.tick s.ktimer then
    { s with tx := false, ktimer := deadline s.tick s.profile.tIeg, kstate := .ieg }
  else s

/-- `POLL.IEG` (R147), with the Iambic-B memory. -/
def armIeg (s : State) : State :=
  if deadlinePassed s.tick s.ktimer then
    if s.mode = .iambicB ∧ s.flags.sqz = true then
      enterSend (symbolSaid (useSqueeze s.flags)) { s with flags := useSqueeze s.flags }
    else { s with ktimer := deadline s.tick s.profile.tLgapDec, kstate := .lgap }
  else s

/-- `POLL.LGAP` (R148): the deadline is tested before the paddles. -/
def armLgap (p : Params) (x : Samples) (s : State) : State :=
  if deadlinePassed s.tick s.ktimer then
    { resolve p s with
      flags := Flags.clear, ktimer := deadline s.tick s.profile.tWgapDec, kstate := .wgap }
  else readForEval x s

/-- `POLL.WGAP` (R149). -/
def armWgap (x : Samples) (s : State) : State :=
  if deadlinePassed s.tick s.ktimer then
    { emit [.word] s with maddr := sentinel, flags := Flags.clear, kstate := .idle }
  else readForEval x s

/-- One arm; it never fails (R154). -/
def runArm (p : Params) (arm : Arm) (x : Samples) (s : State) : State :=
  match arm with
  | .straight => armStraight x s
  | .idle => armIdle x s
  | .eval => armEval s
  | .send => armSend s
  | .ieg => armIeg s
  | .lgap => armLgap p x s
  | .wgap => armWgap x s

/-- `POLL` under the open parameters `p` (R140, R236). -/
def pollWith (p : Params) (x : Samples) (s : State) : Host.Outcome State Fault Refusal :=
  if pollReady s then .next (runArm p (selectArm s.mode s.kstate) x s) else .refused .pollConfigUnwritten

/-- A POLLARM row under the open parameters `p`: the arm, in a state that selects it (R89); elsewhere that arm does
not execute (DESIGN CHOICE, safe, log entry 7). -/
def armWith (p : Params) (arm : Arm) (x : Samples) (s : State) : Host.Outcome State Fault Refusal :=
  if pollReady s then
    if selectArm s.mode s.kstate = arm then .next (runArm p arm x s) else .refused .armNotSelected
  else .refused .pollConfigUnwritten

/-- `POLL a1 a2 b1 b2` (R140): "Exactly one arm runs per `POLL`". -/
def execPoll (a1 a2 b1 b2 : Bool) (s : State) : Host.Outcome State Fault Refusal :=
  pollWith Config.params ⟨a1, a2, b1, b2⟩ s

/-- `POLL.STRAIGHT` (R143). -/
def execPollStraight (a1 a2 b1 b2 : Bool) (s : State) : Host.Outcome State Fault Refusal :=
  armWith Config.params .straight ⟨a1, a2, b1, b2⟩ s

/-- `POLL.IDLE` (R144). -/
def execPollIdle (a1 a2 b1 b2 : Bool) (s : State) : Host.Outcome State Fault Refusal :=
  armWith Config.params .idle ⟨a1, a2, b1, b2⟩ s

/-- `POLL.EVAL` (R145). -/
def execPollEval (a1 a2 b1 b2 : Bool) (s : State) : Host.Outcome State Fault Refusal :=
  armWith Config.params .eval ⟨a1, a2, b1, b2⟩ s

/-- `POLL.SEND` (R146). -/
def execPollSend (a1 a2 b1 b2 : Bool) (s : State) : Host.Outcome State Fault Refusal :=
  armWith Config.params .send ⟨a1, a2, b1, b2⟩ s

/-- `POLL.IEG` (R147). -/
def execPollIeg (a1 a2 b1 b2 : Bool) (s : State) : Host.Outcome State Fault Refusal :=
  armWith Config.params .ieg ⟨a1, a2, b1, b2⟩ s

/-- `POLL.LGAP` (R148). -/
def execPollLgap (a1 a2 b1 b2 : Bool) (s : State) : Host.Outcome State Fault Refusal :=
  armWith Config.params .lgap ⟨a1, a2, b1, b2⟩ s

/-- `POLL.WGAP` (R149). -/
def execPollWgap (a1 a2 b1 b2 : Bool) (s : State) : Host.Outcome State Fault Refusal :=
  armWith Config.params .wgap ⟨a1, a2, b1, b2⟩ s

end Sys2Proof.Machine
end

