-- ==== Sys2Proof/Machine/Settings.lean ====
section
/-! DEFINITION. The Timing Profile Generator and the configuration operations (40_timing_profile_config.md). -/

namespace Sys2Proof.Machine

/-- `SETWPM n` (R110): refused outside 10..60, else the speed, the seven durations and both marks in one step. -/
def execSetwpm (n : Byte) (s : State) : Host.Outcome State Fault Refusal :=
  if wpmLegal n then
    .next { s with wpm := n, profile := profileOf n.toNat, wpmW := true, profValid := true }
  else .refused (.wpmOutOfRange n)

/-- `SETMODE m` (R115): `mode <- m; mode_w <- 1`. -/
def execSetmode (m : Mode) (s : State) : Host.Outcome State Fault Refusal :=
  .next { s with mode := m, modeW := true }

/-- `SETSWAP b` (R116): `swap <- b; swap_w <- 1`; the latched flags are not exchanged. -/
def execSetswap (b : Bool) (s : State) : Host.Outcome State Fault Refusal :=
  .next { s with swap := b, swapW := true }

/-- `SETTONE t` (R117): `tone <- t; tone_w <- 1`; no phase reset. -/
def execSettone (t : Bool) (s : State) : Host.Outcome State Fault Refusal :=
  .next { s with tone := t, toneW := true }

/-- `SETVOL v` (R118) under the open parameters `p`. -/
def setvolWith (p : Params) (v : Byte) (s : State) : Host.Outcome State Fault Refusal :=
  if volTooBig p v then .refused (.volOutOfRange v) else .next { s with vol := v, volW := true }

/-- `SETVOL v` (R118): refused if `v` > `VOL_MAX`, else `vol <- v; vol_w <- 1`. -/
def execSetvol (v : Byte) (s : State) : Host.Outcome State Fault Refusal := setvolWith Config.params v s

/-- `SETREC b` (R119): `rec <- b; rec_w <- 1`. -/
def execSetrec (b : Bool) (s : State) : Host.Outcome State Fault Refusal :=
  .next { s with record := b, recW := true }

end Sys2Proof.Machine
end

