-- ==== Sys2Proof/Machine/Sidetone.lean ====
section
/-! DEFINITION. The sidetone oscillator and the PWM sample: `AUDIOTICK` (44_sidetone_oscillator.md R185 to R190). -/

namespace Sys2Proof.Machine

/-- The tone step: `DELTA_0` or `DELTA_1` (R189). -/
def toneDelta (p : Params) (tone : Bool) : Nat := if tone then p.delta1 else p.delta0

/-- `VOLSHIFT(v) = VOL_MAX - v` (R190). DESIGN CHOICE, safe (log entry 14): 0 for a volume above `VOL_MAX`, which no run
holds. -/
def volShift (p : Params) (v : Byte) : Nat := p.volMax - v.toNat

/-- `sinv <- wraps_8(sinv + ((delta * cosv) asr OSC_SHIFT))`, with the old `cosv` (R187). -/
def nextSin (p : Params) (tone : Bool) (sinv cosv : Byte) : Byte :=
  wrap8 (sinv.toInt + asr ((toneDelta p tone : Int) * cosv.toInt) p.oscShift)

/-- `cosv <- wraps_8(cosv - ((delta * sinv) asr OSC_SHIFT))`, with the NEW `sinv` (R187). -/
def nextCos (p : Params) (tone : Bool) (newSinv cosv : Byte) : Byte :=
  wrap8 (cosv.toInt - asr ((toneDelta p tone : Int) * newSinv.toInt) p.oscShift)

/-- `pwm <- wrapu_8(PWM_MID + (sinv asr VOLSHIFT(vol)))` (R188). -/
def pwmSample (p : Params) (vol sinv : Byte) : Byte :=
  wrap8 ((pwmMid : Int) + asr sinv.toInt (volShift p vol))

/-- The OFF arm (R186): the phase pair back to its initial values, the sample at the midpoint. -/
def audioOff (p : Params) (s : State) : State :=
  { s with sinv := 0, cosv := BitVec.ofNat 8 p.cosInit, pwm := BitVec.ofNat 8 pwmMid }

/-- The ON arm (R187, R188): advance the pair, then sample the advanced sine. -/
def audioOn (p : Params) (s : State) : State :=
  { s with
    sinv := nextSin p s.tone s.sinv s.cosv
    cosv := nextCos p s.tone (nextSin p s.tone s.sinv s.cosv) s.cosv
    pwm := pwmSample p s.vol (nextSin p s.tone s.sinv s.cosv) }

/-- `AUDIOTICK` under the open parameters `p` (R185, and R236 for the ON arm). -/
def audiotickWith (p : Params) (s : State) : Host.Outcome State Fault Refusal :=
  if s.tx then
    if s.toneW && s.volW then .next (audioOn p s) else .refused .audioConfigUnwritten
  else .next (audioOff p s)

/-- `AUDIOTICK` (R185). -/
def execAudiotick (s : State) : Host.Outcome State Fault Refusal := audiotickWith Config.params s

end Sys2Proof.Machine
end

