-- ==== Sys2Proof/Machine/System.lean ====
section
/-! DEFINITION. `RESET` (45_system_ops.md R200). -/

namespace Sys2Proof.Machine

/-- `RESET` under the open parameters `p`, with the values `left` in the registers it leaves unspecified: `tick` and
the output trace are not written (R200, 10_state.md R34). -/
def resetWith (p : Params) (left : LeftByReset) (s : State) : State :=
  { s with
    kstate := .idle, flags := Flags.clear, tx := false, maddr := sentinel
    sinv := 0, cosv := BitVec.ofNat 8 p.cosInit, pwm := BitVec.ofNat 8 pwmMid
    profValid := false
    wpmW := false, modeW := false, swapW := false, toneW := false, volW := false, recW := false
    ktimer := left.ktimer, profile := left.profile, wpm := left.wpm, mode := left.mode
    swap := left.swap, tone := left.tone, vol := left.vol, record := left.record
    freeCtr := s.freeCtr + 1 }

/-- `RESET` (R200); the unspecified registers take free values (log entry 3). -/
def execReset (s : State) : Host.Outcome State Fault Refusal :=
  .next (resetWith Config.params (Config.leftByReset s.freeCtr) s)

end Sys2Proof.Machine
end

