-- ==== Sys2Proof/Machine/Tick.lean ====
section
/-! DEFINITION. The tick source: `MSTICK` (41_paddle_reader_tick.md R130). -/

namespace Sys2Proof.Machine

/-- `MSTICK`: `tick <- wrapu_32(tick + 1)`, "it writes nothing but `tick`" (R130). -/
def execMstick (s : State) : Host.Outcome State Fault Refusal :=
  .next { s with tick := wrap32 (s.tick.toNat + 1) }

end Sys2Proof.Machine
end

