-- ==== Sys2Proof/Machine/Dispatch.lean ====
section
/-! DEFINITION. The meaning of each instruction: one arm per constructor of Instr. -/

namespace Sys2Proof.Machine

def exec (i : Instr) (s : State) : Host.Outcome State Fault Refusal :=
  match i with
  | .poll a1 a2 b1 b2 => Sys2Proof.Machine.execPoll a1 a2 b1 b2 s
  | .mstick => Sys2Proof.Machine.execMstick s
  | .audiotick => Sys2Proof.Machine.execAudiotick s
  | .setwpm n => Sys2Proof.Machine.execSetwpm n s
  | .setmode m => Sys2Proof.Machine.execSetmode m s
  | .setswap b => Sys2Proof.Machine.execSetswap b s
  | .settone t => Sys2Proof.Machine.execSettone t s
  | .setvol v => Sys2Proof.Machine.execSetvol v s
  | .setrec b => Sys2Proof.Machine.execSetrec b s
  | .reset => Sys2Proof.Machine.execReset s
  | .pollStraight a1 a2 b1 b2 => Sys2Proof.Machine.execPollStraight a1 a2 b1 b2 s
  | .pollIdle a1 a2 b1 b2 => Sys2Proof.Machine.execPollIdle a1 a2 b1 b2 s
  | .pollEval a1 a2 b1 b2 => Sys2Proof.Machine.execPollEval a1 a2 b1 b2 s
  | .pollSend a1 a2 b1 b2 => Sys2Proof.Machine.execPollSend a1 a2 b1 b2 s
  | .pollIeg a1 a2 b1 b2 => Sys2Proof.Machine.execPollIeg a1 a2 b1 b2 s
  | .pollLgap a1 a2 b1 b2 => Sys2Proof.Machine.execPollLgap a1 a2 b1 b2 s
  | .pollWgap a1 a2 b1 b2 => Sys2Proof.Machine.execPollWgap a1 a2 b1 b2 s

end Sys2Proof.Machine
end

