-- ==== Sys2Proof/WellFormed.lean ====
section
/-! DEFINITION. Well-formed instructions: the ones an operation word stands for. Operand widths are in the types
(30_encoding.md R83), and the ranges of `SETWPM` and `SETVOL` are checked by the operations themselves after
decoding (R87), so the one check left is that the instruction is an operation and not an arm of `POLL` (R89, R100). -/

namespace Sys2Proof

/-- The instruction is a row of format `OP`: it has a word of its own (30_encoding.md R81, R100). -/
def Instr.isOperation : Instr → Bool
  | .poll _ _ _ _ => true
  | .mstick => true
  | .audiotick => true
  | .setwpm _ => true
  | .setmode _ => true
  | .setswap _ => true
  | .settone _ => true
  | .setvol _ => true
  | .setrec _ => true
  | .reset => true
  | .pollStraight _ _ _ _ => false
  | .pollIdle _ _ _ _ => false
  | .pollEval _ _ _ _ => false
  | .pollSend _ _ _ _ => false
  | .pollIeg _ _ _ _ => false
  | .pollLgap _ _ _ _ => false
  | .pollWgap _ _ _ _ => false

/-- An instruction the decoder can answer (log entry 7). -/
abbrev Instr.WellFormed (i : Instr) : Prop := i.isOperation = true

end Sys2Proof
end

