-- ==== Sys2Proof/Decode.lean ====
section
/-! DEFINITION. Decoding and encoding of the 16-bit operation word (30_encoding.md R80 to R89). Decoding is total:
every word is an operation or is illegal (`none`, R87). -/

namespace Sys2Proof

/-- `opc` = `w[15:12]` (R80). -/
def opcField (w : OpWord) : BitVec 4 := w.extractLsb' 12 4

/-- `arg` = `w[11:0]` (R80). -/
def argField (w : OpWord) : BitVec 12 := w.extractLsb' 0 12

/-- The bits `arg[11:lo]`, which the layout of R81 requires to be 0, are 0 (R87, R88). -/
def argZeroFrom (lo : Nat) (w : OpWord) : Bool := argField w >>> lo == 0

/-- `arg[7:0]`, the operand of `SETWPM` and `SETVOL` (R83). -/
def argByte (w : OpWord) : Byte := (argField w).extractLsb' 0 8

/-- The number of a mode (R84). -/
def Mode.code : Mode → BitVec 2
  | .straight => 0
  | .iambicA => 1
  | .iambicB => 2
  | .ultimatic => 3

/-- The mode of a 2-bit field; all four values are legal (R84). -/
def Mode.ofCode (c : BitVec 2) : Mode :=
  match c.toNat with
  | 0 => .straight
  | 1 => .iambicA
  | 2 => .iambicB
  | _ => .ultimatic

/-- The operation of a word, `none` for an illegal word (R81, R82, R83, R87, R88). -/
def decode (w : OpWord) : Option Instr :=
  match (opcField w).toNat with
  | 0x1 =>
    if argZeroFrom 4 w then
      some (.poll ((argField w).getLsbD 0) ((argField w).getLsbD 1) ((argField w).getLsbD 2) ((argField w).getLsbD 3))
    else none
  | 0x2 => if argZeroFrom 0 w then some .mstick else none
  | 0x3 => if argZeroFrom 0 w then some .audiotick else none
  | 0x4 => if argZeroFrom 8 w then some (.setwpm (argByte w)) else none
  | 0x5 => if argZeroFrom 2 w then some (.setmode (Mode.ofCode ((argField w).extractLsb' 0 2))) else none
  | 0x6 => if argZeroFrom 1 w then some (.setswap ((argField w).getLsbD 0)) else none
  | 0x7 => if argZeroFrom 1 w then some (.settone ((argField w).getLsbD 0)) else none
  | 0x8 => if argZeroFrom 8 w then some (.setvol (argByte w)) else none
  | 0x9 => if argZeroFrom 1 w then some (.setrec ((argField w).getLsbD 0)) else none
  | 0xF => if argZeroFrom 0 w then some .reset else none
  | _ => none

/-- A word from its two fields (R80). -/
def opWord (opc : BitVec 4) (arg : BitVec 12) : OpWord := opc ++ arg

/-- `arg` of a `POLL`: `b2 b1 a2 a1` in bits 3 to 0 (R82). -/
def sampleArg (a1 a2 b1 b2 : Bool) : BitVec 12 :=
  (BitVec.ofBool b2 ++ BitVec.ofBool b1 ++ BitVec.ofBool a2 ++ BitVec.ofBool a1).setWidth 12

/-- `arg` of an operation whose operand is one bit (R83). -/
def bitArg (b : Bool) : BitVec 12 := (BitVec.ofBool b).setWidth 12

/-- The word of an instruction (R81 to R84). An arm has `POLL`'s word: "the arms repeat the `POLL` match and mask" (R100). -/
def encode : Instr → OpWord
  | .poll a1 a2 b1 b2 => opWord 0x1 (sampleArg a1 a2 b1 b2)
  | .mstick => opWord 0x2 0
  | .audiotick => opWord 0x3 0
  | .setwpm n => opWord 0x4 (n.setWidth 12)
  | .setmode m => opWord 0x5 (m.code.setWidth 12)
  | .setswap b => opWord 0x6 (bitArg b)
  | .settone t => opWord 0x7 (bitArg t)
  | .setvol v => opWord 0x8 (v.setWidth 12)
  | .setrec b => opWord 0x9 (bitArg b)
  | .reset => opWord 0xF 0
  | .pollStraight a1 a2 b1 b2 => opWord 0x1 (sampleArg a1 a2 b1 b2)
  | .pollIdle a1 a2 b1 b2 => opWord 0x1 (sampleArg a1 a2 b1 b2)
  | .pollEval a1 a2 b1 b2 => opWord 0x1 (sampleArg a1 a2 b1 b2)
  | .pollSend a1 a2 b1 b2 => opWord 0x1 (sampleArg a1 a2 b1 b2)
  | .pollIeg a1 a2 b1 b2 => opWord 0x1 (sampleArg a1 a2 b1 b2)
  | .pollLgap a1 a2 b1 b2 => opWord 0x1 (sampleArg a1 a2 b1 b2)
  | .pollWgap a1 a2 b1 b2 => opWord 0x1 (sampleArg a1 a2 b1 b2)

/-- The `mask` column of R81 for an instruction's row: the bits a word of that row has fixed. -/
def rowMask : Instr → OpWord
  | .poll _ _ _ _ => 0xFFF0
  | .mstick => 0xFFFF
  | .audiotick => 0xFFFF
  | .setwpm _ => 0xFF00
  | .setmode _ => 0xFFFC
  | .setswap _ => 0xFFFE
  | .settone _ => 0xFFFE
  | .setvol _ => 0xFF00
  | .setrec _ => 0xFFFE
  | .reset => 0xFFFF
  | .pollStraight _ _ _ _ => 0xFFF0
  | .pollIdle _ _ _ _ => 0xFFF0
  | .pollEval _ _ _ _ => 0xFFF0
  | .pollSend _ _ _ _ => 0xFFF0
  | .pollIeg _ _ _ _ => 0xFFF0
  | .pollLgap _ _ _ _ => 0xFFF0
  | .pollWgap _ _ _ _ => 0xFFF0

/-- The `match` column of R81 for an instruction's row: the value of the fixed bits. -/
def rowMatch : Instr → OpWord
  | .poll _ _ _ _ => 0x1000
  | .mstick => 0x2000
  | .audiotick => 0x3000
  | .setwpm _ => 0x4000
  | .setmode _ => 0x5000
  | .setswap _ => 0x6000
  | .settone _ => 0x7000
  | .setvol _ => 0x8000
  | .setrec _ => 0x9000
  | .reset => 0xF000
  | .pollStraight _ _ _ _ => 0x1000
  | .pollIdle _ _ _ _ => 0x1000
  | .pollEval _ _ _ _ => 0x1000
  | .pollSend _ _ _ _ => 0x1000
  | .pollIeg _ _ _ _ => 0x1000
  | .pollLgap _ _ _ _ => 0x1000
  | .pollWgap _ _ _ _ => 0x1000

/-- The operation word whose bits are `w`, the bits from `nbits` up being 0 (log entry 15). -/
def tableWord (nbits w : Nat) : OpWord := BitVec.ofNat 16 (w % 2 ^ nbits)

/-- What the decoder reads from a row of `nbits` bits with value `w`; a value that needs more than 16 bits is no
operation word (R99: "every word is 16 bits"). -/
def decodeTableWord (nbits w : Nat) : Option Instr :=
  if w % 2 ^ nbits < 2 ^ 16 then decode (tableWord nbits w) else none

end Sys2Proof
end

