-- ==== Sys2Proof/Machine/Fetch.lean ====
section
/-! DEFINITION. Taking the next operation from the schedule (20_memory.md R66; log entry 1). The block itself fetches
nothing (10_state.md R35): the schedule is the order in which the four agents issue their operations. -/

namespace Sys2Proof.Machine

/-- What the schedule offers next. -/
inductive Fetched where
  /-- No agent issues an operation. -/
  | quiet
  /-- A word with no operation (30_encoding.md R87). -/
  | illegal (w : OpWord)
  /-- An operation, and the state without its word. -/
  | operation (i : Instr) (s : State)
  deriving DecidableEq, Repr

/-- The head of the schedule, decoded, and the rest of it left in place. -/
def fetch (s : State) : Fetched :=
  match s.schedule with
  | [] => .quiet
  | w :: rest =>
    match decode w with
    | none => .illegal w
    | some i => .operation i { s with schedule := rest }

/-- Put one operation word in front of the schedule. -/
def enqueueFront (w : OpWord) (s : State) : State := { s with schedule := w :: s.schedule }

end Sys2Proof.Machine
end

