-- ==== Sys2Proof/Machine/Step.lean ====
section
/-! DEFINITION. One step of the machine: the next operation of the schedule, executed atomically (20_memory.md R66). -/

namespace Sys2Proof.Machine

/-- One step. When no agent issues an operation nothing changes (00_scope.md R5: the state is "changed only by the
atomic execution" of operations; log entry 1); an illegal word is refused (30_encoding.md R87). -/
def step (s : State) : Host.Outcome State Fault Refusal :=
  match fetch s with
  | .quiet => .next s
  | .illegal w => .refused (.illegalWord w)
  | .operation i t => exec i t

/-- `s` with the given operation word first in its schedule, so that the very next step runs it (log entry 1). -/
def State.withFetchWord (s : State) (nbits w : Nat) : State := enqueueFront (tableWord nbits w) s

end Sys2Proof.Machine
end

