-- ==== Sys2Proof/Machine/Schedule.lean ====
section
/-! DEFINITION. The pseudo-operations of test programs and their expansions (30_encoding.md R98), and the line form of
an operation (R97). -/

namespace Sys2Proof.Machine

/-- `POLL.N`: no paddle (R98). -/
def pollN : Instr := .poll false false false false

/-- `POLL.D`: line A held (R98). -/
def pollD : Instr := .poll true true false false

/-- `POLL.H`: line B held (R98). -/
def pollH : Instr := .poll false false true true

/-- `POLL.S`: both lines held (R98). -/
def pollS : Instr := .poll true true true true

/-- `WAIT n`: `MSTICK` repeated `n` times (R98). -/
def waitTicks (n : Nat) : List Instr := List.replicate n .mstick

/-- `RUN n, P`: the pair `MSTICK` ; `P` repeated `n` times (R98). -/
def runPolls : Nat → Instr → List Instr
  | 0, _ => []
  | n + 1, poll => .mstick :: poll :: runPolls n poll

/-- `AUDIO n`: `AUDIOTICK` repeated `n` times (R98). -/
def audioTicks (n : Nat) : List Instr := List.replicate n .audiotick

/-- The words of a schedule of operations (R80). -/
def words (is : List Instr) : List OpWord := is.map encode

/-- A one-bit operand as a decimal digit (R97). -/
def bitText (b : Bool) : String := if b then "1" else "0"

/-- The four samples in the order `a1 a2 b1 b2` (R97). -/
def sampleText (a1 a2 b1 b2 : Bool) : String :=
  bitText a1 ++ " " ++ bitText a2 ++ " " ++ bitText b1 ++ " " ++ bitText b2

/-- The name of a mode in a program (R97). -/
def modeText : Mode → String
  | .straight => "STRAIGHT"
  | .iambicA => "IAMBICA"
  | .iambicB => "IAMBICB"
  | .ultimatic => "ULTIMATIC"

/-- An operation as one program line: "mnemonic then decimal operands" (R97). An arm is written as `POLL`. -/
def lineText : Instr → String
  | .poll a1 a2 b1 b2 => "POLL " ++ sampleText a1 a2 b1 b2
  | .mstick => "MSTICK"
  | .audiotick => "AUDIOTICK"
  | .setwpm n => "SETWPM " ++ toString n.toNat
  | .setmode m => "SETMODE " ++ modeText m
  | .setswap b => "SETSWAP " ++ bitText b
  | .settone t => "SETTONE " ++ bitText t
  | .setvol v => "SETVOL " ++ toString v.toNat
  | .setrec b => "SETREC " ++ bitText b
  | .reset => "RESET"
  | .pollStraight a1 a2 b1 b2 => "POLL " ++ sampleText a1 a2 b1 b2
  | .pollIdle a1 a2 b1 b2 => "POLL " ++ sampleText a1 a2 b1 b2
  | .pollEval a1 a2 b1 b2 => "POLL " ++ sampleText a1 a2 b1 b2
  | .pollSend a1 a2 b1 b2 => "POLL " ++ sampleText a1 a2 b1 b2
  | .pollIeg a1 a2 b1 b2 => "POLL " ++ sampleText a1 a2 b1 b2
  | .pollLgap a1 a2 b1 b2 => "POLL " ++ sampleText a1 a2 b1 b2
  | .pollWgap a1 a2 b1 b2 => "POLL " ++ sampleText a1 a2 b1 b2

end Sys2Proof.Machine
end

