-- ==== Sys2Proof/Safety.lean ====
section
/-! DEFINITION. The terms in which claims about the machine are stated: its agents (00_scope.md R6), what a `POLL`
needs (70_reset_and_hazards.md R236), runs of several operations, the machine's invariants (10_state.md R33), and the
part of the state that a run may depend on (10_state.md R34). -/

namespace Sys2Proof.Machine

/-- The four agents that issue operations (00_scope.md R6). -/
inductive Agent where
  | pollLoop
  | msTick
  | audio
  | host
  deriving DecidableEq, Repr

/-- The agent that issues an instruction (R6). -/
def agentOf : Instr → Agent
  | .poll _ _ _ _ => .pollLoop
  | .mstick => .msTick
  | .audiotick => .audio
  | .setwpm _ => .host
  | .setmode _ => .host
  | .setswap _ => .host
  | .settone _ => .host
  | .setvol _ => .host
  | .setrec _ => .host
  | .reset => .host
  | .pollStraight _ _ _ _ => .pollLoop
  | .pollIdle _ _ _ _ => .pollLoop
  | .pollEval _ _ _ _ => .pollLoop
  | .pollSend _ _ _ _ => .pollLoop
  | .pollIeg _ _ _ _ => .pollLoop
  | .pollLgap _ _ _ _ => .pollLoop
  | .pollWgap _ _ _ _ => .pollLoop

/-- The operation `POLL` with the given samples. -/
def pollOp (x : Samples) : Instr := .poll x.a1 x.a2 x.b1 x.b2

/-- The POLLARM row of an arm with the given samples (30_encoding.md R89). -/
def armOp (arm : Arm) (x : Samples) : Instr :=
  match arm with
  | .straight => .pollStraight x.a1 x.a2 x.b1 x.b2
  | .idle => .pollIdle x.a1 x.a2 x.b1 x.b2
  | .eval => .pollEval x.a1 x.a2 x.b1 x.b2
  | .send => .pollSend x.a1 x.a2 x.b1 x.b2
  | .ieg => .pollIeg x.a1 x.a2 x.b1 x.b2
  | .lgap => .pollLgap x.a1 x.a2 x.b1 x.b2
  | .wgap => .pollWgap x.a1 x.a2 x.b1 x.b2

/-- Some line has both samples asserted (41_paddle_reader_tick.md R131); `swap` does not matter for this. -/
abbrev Samples.Pressed (x : Samples) : Prop := (x.a1 = true ∧ x.a2 = true) ∨ (x.b1 = true ∧ x.b2 = true)

/-- No `POLL` is refused here: "`mode_w` = 1 and `swap_w` = 1", and outside Straight mode "additionally
`prof_valid` = 1 and `rec_w` = 1" (70_reset_and_hazards.md R236). -/
abbrev State.PollConfigured (s : State) : Prop :=
  s.modeW = true ∧ s.swapW = true ∧ (s.mode ≠ .straight → s.profValid = true ∧ s.recW = true)

/-- A `POLL` runs the sequencer: its configuration is written and `mode` is not Straight (42_keyer_fsm.md R140). -/
abbrev State.Sequenced (s : State) : Prop := s.PollConfigured ∧ s.mode ≠ .straight

/-- The Paddle Reader runs in a `POLL` here: in Straight mode, in `Idle`, and in a gap whose deadline has not passed
(41_paddle_reader_tick.md R135). -/
abbrev State.ReaderRuns (s : State) : Prop :=
  s.mode = .straight ∨ s.kstate = .idle ∨
    ((s.kstate = .lgap ∨ s.kstate = .wgap) ∧ s.tick.toNat ≤ s.ktimer.toNat)

/-- The lowest `arg` bit that the layout of an opcode requires to be 0 (30_encoding.md R81). -/
def zeroFrom : Nat → Nat
  | 0x1 => 4
  | 0x4 => 8
  | 0x5 => 2
  | 0x6 => 1
  | 0x7 => 1
  | 0x8 => 8
  | 0x9 => 1
  | _ => 0

/-- "An operation word is *illegal* when its `opc` is 0x0 or 0xA to 0xE, or when any bit the `arg` layout of rule R81
requires to be 0 is 1" (R87). -/
def IllegalOpWord (w : OpWord) : Prop :=
  w.toNat / 4096 ∈ [0x0, 0xA, 0xB, 0xC, 0xD, 0xE] ∨
    ∃ b, zeroFrom (w.toNat / 4096) ≤ b ∧ b < 12 ∧ w.getLsbD b = true

/-- Several operations in the order given, stopping at the first that does not answer a next state (20_memory.md R66). -/
def execAll : List Instr → State → Host.Outcome State Fault Refusal
  | [], s => .next s
  | i :: is, s =>
    match exec i s with
    | .next t => execAll is t
    | .fault f => .fault f
    | .refused r => .refused r

/-- An element `sym` has just started, the flags being `f`: the state `EnterSend` leaves, in exact arithmetic
(42_keyer_fsm.md R142, 43_morse_decoder.md R171). -/
def elementStarted (sym : Symbol) (f : Flags) (s : State) : State :=
  { s with
    flags := f
    tx := true
    ktimer := BitVec.ofNat 32 (s.tick.toNat + (if sym = .dit then s.profile.tDit.toNat else s.profile.tDah.toNat))
    maddr := BitVec.ofNat 8 (2 * s.maddr.toNat + (if sym = .dit then 0 else 1))
    kstate := .send }

/-- The address after a string of symbols, the first one pushed first (43_morse_decoder.md R171). -/
def pushAll (a : Byte) (syms : List Symbol) : Byte := syms.foldl pushSymbol a

/-- `s1*2^(n-1) + s2*2^(n-2) + ... + sn` (30_encoding.md R94). -/
def symbolValue (syms : List Symbol) : Nat := syms.foldl (fun v sym => 2 * v + symbolBit sym) 0

/-- The last eight symbols. -/
def lastEight (syms : List Symbol) : List Symbol := syms.drop (syms.length - 8)

/-- What holds in every state of a run from reset, and is kept from every state that has it: the squeeze flag means
both paddles (10_state.md R33 (i)), the word gap has an empty address (R33 (v)), a written speed is legal and has its
profile (R28, 70_reset_and_hazards.md R235), a written volume is legal (R28). -/
structure State.Inv (s : State) : Prop where
  squeeze : s.flags.sqz = true → s.flags.dit = true ∧ s.flags.dah = true
  wordGap : s.kstate = .wgap → s.maddr = 1
  validProfile : s.profValid = s.wpmW
  speed : s.wpmW = true → 10 ≤ s.wpm.toNat ∧ s.wpm.toNat ≤ 60 ∧ s.profile = profileOf s.wpm.toNat
  volume : s.volW = true → s.vol.toNat ≤ Config.params.volMax

/-- "`tx` = 1 if and only if `kstate = Send`", kept while Straight mode is not used (10_state.md R33 (iv)). -/
abbrev State.KeyedOnlyInSend (s : State) : Prop := s.tx = true ↔ s.kstate = .send

/-- The `kstate` transitions of 42_keyer_fsm.md R152 that wait for the deadline. -/
def timedMoves : List (KState × KState) :=
  [(.send, .ieg), (.ieg, .send), (.ieg, .lgap), (.lgap, .wgap), (.wgap, .idle)]

/-- The `kstate` transitions of R152 that do not wait for it: a key found, or an element chosen or not. -/
def promptMoves : List (KState × KState) :=
  [(.idle, .eval), (.lgap, .eval), (.wgap, .eval), (.eval, .send), (.eval, .idle)]

/-- `kstate` reads the deadline only in these four states (70_reset_and_hazards.md R232). -/
def readsDeadline : KState → Bool
  | .idle => false
  | .eval => false
  | .send => true
  | .ieg => true
  | .lgap => true
  | .wgap => true

/-- A squeeze the Iambic-B memory has not used yet (42_keyer_fsm.md R147). -/
def memoryPending (s : State) : Bool := decide (s.mode = .iambicB) && s.flags.sqz

/-- How many transitions at most remain until `Idle` with no paddle input (42_keyer_fsm.md R154). -/
def remaining (s : State) : Nat :=
  match s.kstate with
  | .idle => 0
  | .wgap => 1
  | .lgap => 2
  | .ieg => if memoryPending s then 5 else 3
  | .send => if memoryPending s then 6 else 4
  | .eval => if memoryPending s then 7 else 5

/-- Two states agree on everything the spec gives a value: the registers that are specified, and each of the others
once something has written it (10_state.md R34; 70_reset_and_hazards.md R232, R236). -/
structure SameSpecified (s t : State) : Prop where
  tick : s.tick = t.tick
  kstate : s.kstate = t.kstate
  flags : s.flags = t.flags
  ktimer : readsDeadline s.kstate = true → s.ktimer = t.ktimer
  tx : s.tx = t.tx
  maddr : s.maddr = t.maddr
  profValid : s.profValid = t.profValid
  profile : s.profValid = true → s.profile = t.profile
  wpmW : s.wpmW = t.wpmW
  wpm : s.wpmW = true → s.wpm = t.wpm
  modeW : s.modeW = t.modeW
  mode : s.modeW = true → s.mode = t.mode
  swapW : s.swapW = t.swapW
  swap : s.swapW = true → s.swap = t.swap
  toneW : s.toneW = t.toneW
  tone : s.toneW = true → s.tone = t.tone
  volW : s.volW = t.volW
  vol : s.volW = true → s.vol = t.vol
  recW : s.recW = t.recW
  record : s.recW = true → s.record = t.record
  sinv : s.sinv = t.sinv
  cosv : s.cosv = t.cosv
  pwm : s.pwm = t.pwm
  trace : s.trace = t.trace
  schedule : s.schedule = t.schedule

end Sys2Proof.Machine
end

