-- ==== Sys2Proof/Certificates/Slice0/Obligations.lean ====
section
/-! DEFINITION. The statements for the provers, one definition each; OBLIGATIONS.json lists them. -/

open Sys2Proof Sys2Proof.Machine

/-! ## Encoding -/

/-- Every word the spec writes out, in the examples of 30_encoding.md R97 and the vectors V-E1 to V-E12 of
95_test_vectors.md, decodes as it says there: to the operation it names, or, for the eight illegal ones, to none. -/
def Obligations.SpecWordsDecodeAsWritten : Prop :=
  (decode 0x1003 = some (.poll true true false false) ∧ decode 0x100C = some (.poll false false true true) ∧
    decode 0x100F = some (.poll true true true true) ∧ decode 0x1001 = some (.poll true false false false) ∧
    decode 0x100D = some (.poll true false true true) ∧ decode 0x2000 = some .mstick ∧
    decode 0x3000 = some .audiotick ∧ decode 0x4019 = some (.setwpm 25) ∧ decode 0x4009 = some (.setwpm 9) ∧
    decode 0x403D = some (.setwpm 61) ∧ decode 0x5002 = some (.setmode .iambicB) ∧
    decode 0x5003 = some (.setmode .ultimatic) ∧ decode 0x6001 = some (.setswap true) ∧
    decode 0x7000 = some (.settone false) ∧ decode 0x8004 = some (.setvol 4) ∧
    decode 0x9001 = some (.setrec true) ∧ decode 0xF000 = some .reset) ∧
  (decode 0x1010 = none ∧ decode 0x2001 = none ∧ decode 0x4119 = none ∧ decode 0x5004 = none ∧
    decode 0x0000 = none ∧ decode 0xA000 = none ∧ decode 0xE123 = none ∧ decode 0xF001 = none)

/-- Every operation survives encoding and decoding, with every operand at every value (30_encoding.md R80 to R84). -/
def Obligations.DecodeEncodeRoundTrip : Prop :=
  ∀ i : Instr, i.WellFormed → decode (encode i) = some i

/-- Every word that decodes is the one word of its operation. -/
def Obligations.DecodedWordEncodesBack : Prop :=
  ∀ (w : OpWord) (i : Instr), decode w = some i → i.WellFormed ∧ encode i = w

/-- The illegal words are refused and change nothing; the others decode (30_encoding.md R87). -/
def Obligations.IllegalWordsAreRefused : Prop :=
  (∀ (s : State) (w : OpWord) (rest : List OpWord), s.schedule = w :: rest →
    (IllegalOpWord w ↔ decode w = none) ∧ (IllegalOpWord w → step s = .refused (.illegalWord w))) ∧
  (∀ (s : State) (n : Byte), n.toNat < 10 ∨ 60 < n.toNat → exec (.setwpm n) s = .refused (.wpmOutOfRange n)) ∧
  (∀ (s : State) (v : Byte), Config.params.volMax < v.toNat → exec (.setvol v) s = .refused (.volOutOfRange v))

/-- `MSTICK`, `AUDIOTICK` and `RESET` each have exactly one word (30_encoding.md R88). -/
def Obligations.OperandlessOperationsHaveOneWord : Prop :=
  ∀ w : OpWord, (decode w = some .mstick ↔ w = 0x2000) ∧ (decode w = some .audiotick ↔ w = 0x3000) ∧
    (decode w = some .reset ↔ w = 0xF000)

/-- The arms have `POLL`'s word, and the decoder reads `POLL` from it (30_encoding.md R89, R100). That the arms are
constructors of their own at all is the model's choice (log entry 7). -/
def Obligations.ArmsShareThePollWord : Prop :=
  ∀ (arm : Arm) (x : Samples), encode (armOp arm x) = encode (pollOp x) ∧ decode (encode (armOp arm x)) = some (pollOp x)

/-- The numbers of the modes and of the sequencer states, and the layout of `flags` (30_encoding.md R84, R90, R91). -/
def Obligations.EnumerationsHaveTheirNumbers : Prop :=
  (Mode.straight.code = 0 ∧ Mode.iambicA.code = 1 ∧ Mode.iambicB.code = 2 ∧ Mode.ultimatic.code = 3) ∧
  (∀ c, (Mode.ofCode c).code = c) ∧
  (KState.idle.code = 0 ∧ KState.eval.code = 1 ∧ KState.send.code = 2 ∧ KState.ieg.code = 3 ∧ KState.lgap.code = 4 ∧
    KState.wgap.code = 5) ∧
  (∀ k, KState.ofCode k.code = some k) ∧ KState.ofCode 6 = none ∧ KState.ofCode 7 = none ∧
  (∀ f : Flags, f.bits.getLsbD 0 = f.dit ∧ f.bits.getLsbD 1 = f.dah ∧ f.bits.getLsbD 2 = f.wasdit ∧
    f.bits.getLsbD 3 = f.sqz ∧ Flags.ofBits f.bits = f)

/-! ## Steps -/

/-- A step executes the decoded operation at the head of the schedule, with that word taken off; with no operation
issued nothing changes (20_memory.md R66; the schedule is the model's form of the interleaving, log entry 1). -/
def Obligations.StepRunsTheDecodedOperation : Prop :=
  (∀ (s : State) (w : OpWord) (rest : List OpWord) (i : Instr), s.schedule = w :: rest → decode w = some i →
    step s = exec i { s with schedule := rest }) ∧
  (∀ s : State, s.schedule = [] → step s = .next s)

/-- A word put in front by `withFetchWord` is the one the next step runs, on the state as it was (log entry 1). -/
def Obligations.FetchWordRunsNext : Prop :=
  ∀ (s : State) (w : Nat) (i : Instr), decodeTableWord 16 w = some i → step (s.withFetchWord 16 w) = exec i s

/-- No operation touches the words still to be executed, and only `RESET` takes free values (log entries 1 and 3). -/
def Obligations.ExecutionLeavesTheScheduleAlone : Prop :=
  ∀ (i : Instr) (s t : State), exec i s = .next t → t.schedule = s.schedule ∧ (i ≠ .reset → t.freeCtr = s.freeCtr)

/-! ## Reset -/

/-- The values the spec states for the state at reset exit (70_reset_and_hazards.md R231). -/
def Obligations.ResetStateHoldsTheSpecValues : Prop :=
  State.reset.kstate = .idle ∧ State.reset.flags.bits = 0 ∧ State.reset.tx = false ∧ State.reset.maddr.toNat = 1 ∧
  State.reset.sinv.toInt = 0 ∧ State.reset.cosv.toInt = Config.params.cosInit ∧ State.reset.pwm.toNat = 128 ∧
  State.reset.profValid = false ∧ State.reset.wpmW = false ∧ State.reset.modeW = false ∧
  State.reset.swapW = false ∧ State.reset.toneW = false ∧ State.reset.volW = false ∧ State.reset.recW = false ∧
  State.reset.trace = []

/-- `RESET` completes from every state with the values of 45_system_ops.md R200; it writes neither `tick` nor the
trace, and a `POLL` right after it is refused. -/
def Obligations.ResetOperationResult : Prop :=
  ∀ s : State, ∃ t, exec .reset s = .next t ∧
    t.kstate = .idle ∧ t.flags.bits = 0 ∧ t.tx = false ∧ t.maddr.toNat = 1 ∧
    t.sinv.toInt = 0 ∧ t.cosv.toInt = Config.params.cosInit ∧ t.pwm.toNat = 128 ∧ t.profValid = false ∧
    t.wpmW = false ∧ t.modeW = false ∧ t.swapW = false ∧ t.toneW = false ∧ t.volW = false ∧ t.recW = false ∧
    t.tick = s.tick ∧ t.trace = s.trace ∧ t.schedule = s.schedule ∧
    (∀ x : Samples, exec (pollOp x) t = .refused .pollConfigUnwritten)

/-! ## Tick source and configuration -/

/-- `MSTICK` adds one to `tick`, modulo 2^32, and writes nothing else (41_paddle_reader_tick.md R130). -/
def Obligations.MstickAdvancesTheTick : Prop :=
  ∀ s : State, ∃ t, exec .mstick s = .next t ∧ t.tick.toNat = (s.tick.toNat + 1) % 4294967296 ∧
    t = { s with tick := t.tick }

/-- `SETWPM` in range computes the seven durations by the formulas of 40_timing_profile_config.md R110 and writes
nothing but the speed, the profile and their two marks; out of range it is refused. -/
def Obligations.SetwpmComputesTheProfile : Prop :=
  ∀ (s : State) (n : Byte),
    (10 ≤ n.toNat → n.toNat ≤ 60 → ∃ t, exec (.setwpm n) s = .next t ∧ t.wpm = n ∧
      t.profile.tDit.toNat = 1200 / n.toNat ∧ t.profile.tDah.toNat = 3 * (1200 / n.toNat) ∧
      t.profile.tIeg.toNat = 1200 / n.toNat ∧ t.profile.tLgapDec.toNat = (5 * 1200) / (2 * n.toNat) ∧
      t.profile.tLgapSend.toNat = 3 * (1200 / n.toNat) ∧ t.profile.tWgapDec.toNat = 3 * (1200 / n.toNat) ∧
      t.profile.tWgapSend.toNat = 7 * (1200 / n.toNat) ∧
      t = { s with wpm := n, profile := t.profile, wpmW := true, profValid := true }) ∧
    (n.toNat < 10 ∨ 60 < n.toNat → exec (.setwpm n) s = .refused (.wpmOutOfRange n))

/-- The proportions of every profile a run can hold, from every state that meets the invariant
(40_timing_profile_config.md R112, R114, marked derived there). -/
def Obligations.ProfilesHaveTheirProportions : Prop :=
  ∀ s : State, s.Inv → s.profValid = true →
    s.profile.tDah.toNat = 3 * s.profile.tDit.toNat ∧ s.profile.tIeg = s.profile.tDit ∧
    s.profile.tWgapSend.toNat = 7 * s.profile.tDit.toNat ∧ s.profile.tLgapSend = s.profile.tDah ∧
    s.profile.tWgapDec = s.profile.tDah ∧ 20 ≤ s.profile.tDit.toNat ∧ s.profile.tDit.toNat ≤ 120 ∧
    2 * s.profile.tDit.toNat < s.profile.tLgapDec.toNat ∧ s.profile.tLgapDec.toNat < 3 * s.profile.tDit.toNat

/-- `SETMODE` and `SETSWAP` write their register and its written-bit and nothing else, so `kstate` stays where it was
and the latched flags are not exchanged (R115, R116). -/
def Obligations.SetmodeAndSetswapWriteOneRegister : Prop :=
  ∀ s : State, (∀ m, exec (.setmode m) s = .next { s with mode := m, modeW := true }) ∧
    (∀ b, exec (.setswap b) s = .next { s with swap := b, swapW := true })

/-- `SETTONE` and `SETREC` write their register and its written-bit and nothing else: no phase reset (R117, R119). -/
def Obligations.SettoneAndSetrecWriteOneRegister : Prop :=
  ∀ s : State, (∀ b, exec (.settone b) s = .next { s with tone := b, toneW := true }) ∧
    (∀ b, exec (.setrec b) s = .next { s with record := b, recW := true })

/-- `SETVOL` up to `VOL_MAX` writes the volume and its written-bit; above it is refused; `VOL_MAX` is the loudest
setting (shift 0) and 0 the quietest (R118). -/
def Obligations.SetvolWritesALegalVolume : Prop :=
  ∀ (s : State) (v : Byte),
    (v.toNat ≤ Config.params.volMax → exec (.setvol v) s = .next { s with vol := v, volW := true }) ∧
    (Config.params.volMax < v.toNat → exec (.setvol v) s = .refused (.volOutOfRange v)) ∧
    (v.toNat = Config.params.volMax → volShift Config.params v = 0) ∧
    volShift Config.params 0 = Config.params.volMax

/-- A configuration operation leaves the keyer and the oscillator alone: `kstate`, `ktimer`, `flags`, `tx`, `maddr`,
`sinv`, `cosv`, `pwm`; so an element in progress still ends at its old deadline and the gap after it is timed with
the new profile (R120, 70_reset_and_hazards.md R244). -/
def Obligations.ConfigurationLeavesTheKeyerAlone : Prop :=
  (∀ (i : Instr) (s t : State), agentOf i = .host → i ≠ .reset → exec i s = .next t →
    t.kstate = s.kstate ∧ t.ktimer = s.ktimer ∧ t.flags = s.flags ∧ t.tx = s.tx ∧ t.maddr = s.maddr ∧
    t.sinv = s.sinv ∧ t.cosv = s.cosv ∧ t.pwm = s.pwm ∧ t.tick = s.tick ∧ t.trace = s.trace) ∧
  (∀ (s t : State) (n : Byte) (x : Samples), s.Sequenced → s.kstate = .send → exec (.setwpm n) s = .next t →
    (s.tick.toNat ≤ s.ktimer.toNat → exec (pollOp x) t = .next t) ∧
    (s.ktimer.toNat < s.tick.toNat → ∃ u, exec (pollOp x) t = .next u ∧ u.kstate = .ieg ∧
      u.ktimer = BitVec.ofNat 32 (s.tick.toNat + 1200 / n.toNat)))

/-! ## Paddle Reader -/

/-- The Paddle Reader assigns `DIT`, `DAH` and `SQZ` from the doubly asserted lines, exchanged by `swap`, keeps
`WASDIT`, emits `ACTIVITY` exactly when a press was accepted, and changes nothing else (41_paddle_reader_tick.md
R131 to R133). -/
def Obligations.PaddleReaderAssignsTheFlags : Prop :=
  ∀ (x : Samples) (s : State),
    ((paddleRead x s).flags.dit = true ↔
      (s.swap = false ∧ x.a1 = true ∧ x.a2 = true) ∨ (s.swap = true ∧ x.b1 = true ∧ x.b2 = true)) ∧
    ((paddleRead x s).flags.dah = true ↔
      (s.swap = false ∧ x.b1 = true ∧ x.b2 = true) ∨ (s.swap = true ∧ x.a1 = true ∧ x.a2 = true)) ∧
    ((paddleRead x s).flags.sqz = true ↔ (x.a1 = true ∧ x.a2 = true) ∧ (x.b1 = true ∧ x.b2 = true)) ∧
    (paddleRead x s).flags.wasdit = s.flags.wasdit ∧
    (x.Pressed → (paddleRead x s).trace = s.trace ++ [.activity]) ∧ (¬ x.Pressed → (paddleRead x s).trace = s.trace) ∧
    paddleRead x s = { s with flags := (paddleRead x s).flags, trace := (paddleRead x s).trace }

/-- Where the reader runs and where the flags stay latched: in `Eval`, `Send` and `IEG`, and in a gap whose deadline
has passed, the samples make no difference; elsewhere the poll's events and any key it finds are the reader's
(41_paddle_reader_tick.md R135). -/
def Obligations.ReaderRunsOnlyInItsArms : Prop :=
  (∀ (s : State) (x y : Samples), s.mode ≠ .straight →
    s.kstate = .eval ∨ s.kstate = .send ∨ s.kstate = .ieg ∨
      ((s.kstate = .lgap ∨ s.kstate = .wgap) ∧ s.ktimer.toNat < s.tick.toNat) →
    exec (pollOp x) s = exec (pollOp y) s) ∧
  (∀ (s t : State) (x : Samples), s.mode ≠ .straight → s.kstate = .eval ∨ s.kstate = .send ∨ s.kstate = .ieg →
    exec (pollOp x) s = .next t → t.trace = s.trace ∧ t.flags.dit = s.flags.dit ∧ t.flags.dah = s.flags.dah ∧
      (t.flags.sqz = s.flags.sqz ∨ (s.kstate = .ieg ∧ s.mode = .iambicB ∧ t.flags.sqz = false))) ∧
  (∀ (s t : State) (x : Samples), s.ReaderRuns → exec (pollOp x) s = .next t →
    t.trace = (paddleRead x s).trace ∧
    (x.Pressed ∨ s.mode = .straight ∨ s.kstate ≠ .idle → t.flags = (paddleRead x s).flags))

/-! ## POLL and its arms -/

/-- `POLL` runs the arm that the mode and the sequencer state select (30_encoding.md R89, 42_keyer_fsm.md R140). -/
def Obligations.PollRunsTheSelectedArm : Prop :=
  ∀ (s : State) (x : Samples),
    (s.mode = .straight → exec (pollOp x) s = exec (armOp .straight x) s) ∧
    (s.mode ≠ .straight →
      (s.kstate = .idle → exec (pollOp x) s = exec (armOp .idle x) s) ∧
      (s.kstate = .eval → exec (pollOp x) s = exec (armOp .eval x) s) ∧
      (s.kstate = .send → exec (pollOp x) s = exec (armOp .send x) s) ∧
      (s.kstate = .ieg → exec (pollOp x) s = exec (armOp .ieg x) s) ∧
      (s.kstate = .lgap → exec (pollOp x) s = exec (armOp .lgap x) s) ∧
      (s.kstate = .wgap → exec (pollOp x) s = exec (armOp .wgap x) s))

/-- A POLLARM row that the state does not select is refused by name: the model's choice (log entry 7). -/
def Obligations.UnselectedArmsAreRefused : Prop :=
  ∀ (s : State) (x : Samples) (arm : Arm), s.PollConfigured → arm ≠ selectArm s.mode s.kstate →
    exec (armOp arm x) s = .refused .armNotSelected

/-- Straight mode: the transmitter is keyed exactly while a line is doubly asserted; the flags and the event are the
reader's; the sequencer, the deadline and the address stay (42_keyer_fsm.md R143). -/
def Obligations.StraightPollKeysTheTransmitter : Prop :=
  ∀ (s : State) (x : Samples), s.PollConfigured → s.mode = .straight →
    ∃ t, exec (pollOp x) s = .next t ∧ exec (armOp .straight x) s = .next t ∧
      (t.tx = true ↔ x.Pressed) ∧ t = { paddleRead x s with tx := t.tx } ∧
      t.kstate = s.kstate ∧ t.ktimer = s.ktimer ∧ t.maddr = s.maddr ∧ t.flags.wasdit = s.flags.wasdit

/-- `Idle`: a key found leads to `Eval` with the reader's flags; otherwise all four flags are cleared and the address
is the sentinel (42_keyer_fsm.md R144). -/
def Obligations.IdlePollWaitsForAKey : Prop :=
  ∀ (s : State) (x : Samples), s.Sequenced → s.kstate = .idle →
    (x.Pressed → exec (pollOp x) s = .next { paddleRead x s with kstate := .eval } ∧
      exec (armOp .idle x) s = .next { paddleRead x s with kstate := .eval }) ∧
    (¬ x.Pressed → exec (pollOp x) s = .next { s with flags := ⟨false, false, false, false⟩, maddr := 1 } ∧
      exec (armOp .idle x) s = .next { s with flags := ⟨false, false, false, false⟩, maddr := 1 })

/-- `Eval`: the element-choice policy with `EnterSend` (42_keyer_fsm.md R142, R145). -/
def Obligations.EvalPollChoosesTheElement : Prop :=
  ∀ (s : State) (x : Samples), s.Sequenced → s.kstate = .eval →
    ∃ t, exec (pollOp x) s = .next t ∧ exec (armOp .eval x) s = .next t ∧
      (s.flags.sqz = true → s.mode = .ultimatic →
        t = elementStarted (if s.flags.wasdit then .dah else .dit) s.flags s) ∧
      (s.flags.sqz = true → s.mode ≠ .ultimatic → s.flags.wasdit = false →
        t = elementStarted .dit { s.flags with wasdit := true } s) ∧
      (s.flags.sqz = true → s.mode ≠ .ultimatic → s.flags.wasdit = true →
        t = elementStarted .dah { s.flags with wasdit := false } s) ∧
      (s.flags.sqz = false → s.flags.dit = true → s.flags.dah = false →
        t = elementStarted .dit { s.flags with wasdit := true } s) ∧
      (s.flags.sqz = false → s.flags.dit = false → s.flags.dah = true →
        t = elementStarted .dah { s.flags with wasdit := false } s) ∧
      (s.flags.sqz = false → s.flags.dit = s.flags.dah → t = { s with kstate := .idle })

/-- `Send`: nothing until `now >u ktimer`; then key up, a gap of one dit, `IEG` (42_keyer_fsm.md R141, R146). -/
def Obligations.SendPollEndsTheElement : Prop :=
  ∀ (s : State) (x : Samples), s.Sequenced → s.kstate = .send →
    (s.tick.toNat ≤ s.ktimer.toNat → exec (pollOp x) s = .next s ∧ exec (armOp .send x) s = .next s) ∧
    (s.ktimer.toNat < s.tick.toNat →
      ∃ t, exec (pollOp x) s = .next t ∧ exec (armOp .send x) s = .next t ∧
        t = { s with tx := false, kstate := .ieg,
                     ktimer := BitVec.ofNat 32 (s.tick.toNat + s.profile.tIeg.toNat) })

/-- `IEG`: nothing until the gap is over; then in Iambic-B with the squeeze latched one extra alternate element, else
the letter gap (42_keyer_fsm.md R142, R147). -/
def Obligations.InterElementGapEnds : Prop :=
  ∀ (s : State) (x : Samples), s.Sequenced → s.kstate = .ieg →
    (s.tick.toNat ≤ s.ktimer.toNat → exec (pollOp x) s = .next s ∧ exec (armOp .ieg x) s = .next s) ∧
    (s.ktimer.toNat < s.tick.toNat →
      ∃ t, exec (pollOp x) s = .next t ∧ exec (armOp .ieg x) s = .next t ∧
        (s.mode = .iambicB → s.flags.sqz = true → s.flags.wasdit = false →
          t = elementStarted .dit { s.flags with sqz := false, wasdit := true } s) ∧
        (s.mode = .iambicB → s.flags.sqz = true → s.flags.wasdit = true →
          t = elementStarted .dah { s.flags with sqz := false, wasdit := false } s) ∧
        (s.mode ≠ .iambicB ∨ s.flags.sqz = false →
          t = { s with kstate := .lgap,
                       ktimer := BitVec.ofNat 32 (s.tick.toNat + s.profile.tLgapDec.toNat) }))

/-- `LGap`: the deadline first: `RESOLVE`, the flags cleared, the word gap; otherwise the reader, and a key found leads
to `Eval` with the deadline and the address kept (42_keyer_fsm.md R148). -/
def Obligations.LetterGapResolvesOrContinues : Prop :=
  ∀ (s : State) (x : Samples), s.Sequenced → s.kstate = .lgap →
    ∃ t, exec (pollOp x) s = .next t ∧ exec (armOp .lgap x) s = .next t ∧
      (s.ktimer.toNat < s.tick.toNat →
        t = { s with kstate := .wgap, flags := ⟨false, false, false, false⟩, maddr := 1,
                     ktimer := BitVec.ofNat 32 (s.tick.toNat + s.profile.tWgapDec.toNat),
                     trace := (resolve Config.params s).trace }) ∧
      (s.tick.toNat ≤ s.ktimer.toNat → x.Pressed → t = { paddleRead x s with kstate := .eval }) ∧
      (s.tick.toNat ≤ s.ktimer.toNat → ¬ x.Pressed → t = paddleRead x s)

/-- `WGap`: the deadline first: the address and the flags cleared, `WORD`, `Idle`; otherwise the reader
(42_keyer_fsm.md R149). -/
def Obligations.WordGapEndsTheWord : Prop :=
  ∀ (s : State) (x : Samples), s.Sequenced → s.kstate = .wgap →
    ∃ t, exec (pollOp x) s = .next t ∧ exec (armOp .wgap x) s = .next t ∧
      (s.ktimer.toNat < s.tick.toNat →
        t = { s with kstate := .idle, flags := ⟨false, false, false, false⟩, maddr := 1,
                     trace := s.trace ++ [.word] }) ∧
      (s.tick.toNat ≤ s.ktimer.toNat → x.Pressed → t = { paddleRead x s with kstate := .eval }) ∧
      (s.tick.toNat ≤ s.ktimer.toNat → ¬ x.Pressed → t = paddleRead x s)

/-- The refusals on unwritten configuration, and that there are no others for that reason
(70_reset_and_hazards.md R236). -/
def Obligations.UnwrittenConfigurationIsRefused : Prop :=
  ∀ (s : State) (x : Samples),
    (¬ s.PollConfigured → exec (pollOp x) s = .refused .pollConfigUnwritten ∧
      ∀ arm, exec (armOp arm x) s = .refused .pollConfigUnwritten) ∧
    (s.PollConfigured → ∃ t, exec (pollOp x) s = .next t) ∧
    (s.tx = true → ¬ (s.toneW = true ∧ s.volW = true) → exec .audiotick s = .refused .audioConfigUnwritten) ∧
    (s.tx = true → s.toneW = true → s.volW = true → ∃ t, exec .audiotick s = .next t) ∧
    (s.tx = false → ∃ t, exec .audiotick s = .next t) ∧
    (∀ i, agentOf i = .msTick ∨ agentOf i = .host →
      exec i s ≠ .refused .pollConfigUnwritten ∧ exec i s ≠ .refused .audioConfigUnwritten)

/-! ## The sequencer as a whole -/

/-- Every way `kstate` changes, but for `RESET`: only a `POLL` outside Straight mode, only along the listed
transitions, and the timed ones only after the deadline (42_keyer_fsm.md R152). -/
def Obligations.SequencerMovesOnlyAsListed : Prop :=
  ∀ (i : Instr) (s t : State), exec i s = .next t → i ≠ .reset → t.kstate ≠ s.kstate →
    agentOf i = .pollLoop ∧ s.mode ≠ .straight ∧
    ((s.kstate, t.kstate) ∈ promptMoves ∨
      ((s.kstate, t.kstate) ∈ timedMoves ∧ s.ktimer.toNat < s.tick.toNat))

/-- A poll that enters `Idle` or `WGap` clears the flags, unless it is the last branch of `Eval`
(42_keyer_fsm.md R155, marked derived there). -/
def Obligations.BoundariesClearTheFlags : Prop :=
  ∀ (i : Instr) (s t : State), exec i s = .next t → t.kstate ≠ s.kstate → s.kstate ≠ .eval →
    t.kstate = .idle ∨ t.kstate = .wgap → t.flags.bits = 0 ∧ t.maddr = 1

/-- "repeatedly polling the keyer with no paddle input leaves KeyerState at Idle and PaddleFlags all clear"
(42_keyer_fsm.md R144, R153 (1)): the second such poll changes nothing at all. -/
def Obligations.IdlePollingIsIdempotent : Prop :=
  ∀ (s : State) (x y : Samples), s.Sequenced → s.kstate = .idle → ¬ x.Pressed → ¬ y.Pressed →
    ∃ t, exec (pollOp x) s = .next t ∧ t.kstate = .idle ∧ t.flags.bits = 0 ∧ exec (pollOp y) t = .next t

/-- Iambic-A against Iambic-B at the end of a gap with the squeeze latched: A goes to the letter gap; B sends one
alternate element, and the gap after that element leads to the letter gap (42_keyer_fsm.md R147, R153 (2)). -/
def Obligations.IambicMemorySendsExactlyOneElement : Prop :=
  ∀ (s : State) (x : Samples), s.Sequenced → s.kstate = .ieg → s.flags.sqz = true → s.ktimer.toNat < s.tick.toNat →
    (s.mode = .iambicA → ∃ t, exec (pollOp x) s = .next t ∧ t.kstate = .lgap ∧ t.tx = s.tx ∧ t.maddr = s.maddr) ∧
    (s.mode = .iambicB → ∃ t, exec (pollOp x) s = .next t ∧ t.kstate = .send ∧ t.tx = true ∧
      t.flags.wasdit = !s.flags.wasdit ∧
      ∀ (u : State) (y : Samples), u.Sequenced → u.mode = .iambicB → u.kstate = .ieg → u.flags = t.flags →
        u.ktimer.toNat < u.tick.toNat → ∃ v, exec (pollOp y) u = .next v ∧ v.kstate = .lgap)

/-- Ultimatic "never alternates": one squeezed element leaves the flags as they were, so the next one chosen from the
same flags is the same symbol (42_keyer_fsm.md R145 (b), R153 (3)). -/
def Obligations.UltimaticNeverAlternates : Prop :=
  ∀ (s u : State) (x y : Samples), s.Sequenced → u.Sequenced → s.mode = .ultimatic → u.mode = .ultimatic →
    s.kstate = .eval → u.kstate = .eval → s.flags.sqz = true →
    ∃ t, exec (pollOp x) s = .next t ∧ t.flags = s.flags ∧ t.maddr.getLsbD 0 = s.flags.wasdit ∧
      (u.flags = t.flags → ∃ v, exec (pollOp y) u = .next v ∧ v.maddr.getLsbD 0 = t.maddr.getLsbD 0)

/-- With no paddle input every poll whose deadline (where one is read) has passed brings the keyer nearer to `Idle`,
which it reaches within at most seven transitions (42_keyer_fsm.md R154). -/
def Obligations.QuietPollsReachIdleWithinSeven : Prop :=
  (∀ s : State, remaining s ≤ 7 ∧ (remaining s = 0 ↔ s.kstate = .idle)) ∧
  (∀ (s : State) (x : Samples), s.Sequenced → ¬ x.Pressed → s.kstate ≠ .idle →
    (readsDeadline s.kstate = true → s.ktimer.toNat < s.tick.toNat) →
    ∃ t, exec (pollOp x) s = .next t ∧ remaining t < remaining s ∧
      (s.KeyedOnlyInSend → t.kstate = .idle → t.tx = false))

/-- Under the reference schedule (`MSTICK` then `POLL`, repeated) an element whose deadline is `d` ticks away stays
keyed for `d` rounds and is released by round `d + 1` (70_reset_and_hazards.md R242, R247). -/
def Obligations.KeyDownLastsOneTickMoreThanItsDuration : Prop :=
  ∀ (s : State) (x : Samples) (d : Nat), s.Sequenced → s.kstate = .send → s.tx = true →
    s.ktimer.toNat = s.tick.toNat + d → s.tick.toNat + d + 1 < 4294967296 →
    (∀ n, n ≤ d → execAll (runPolls n (pollOp x)) s = .next { s with tick := BitVec.ofNat 32 (s.tick.toNat + n) }) ∧
    ∃ t, execAll (runPolls (d + 1) (pollOp x)) s = .next t ∧ t.kstate = .ieg ∧ t.tx = false ∧
      t.tick.toNat = s.tick.toNat + d + 1

/-- The tick-wrap hazard with the deadline exactly 0xFFFFFFFF: an element, or the gap after it, stays as it is through
every run of operations of all four agents that holds no `RESET` and no `SETMODE STRAIGHT`
(70_reset_and_hazards.md R240 (c)). -/
def Obligations.DeadlineAllOnesNeverPasses : Prop :=
  ∀ (is : List Instr) (s t : State), (∀ i ∈ is, i ≠ .reset ∧ i ≠ .setmode .straight) → s.mode ≠ .straight →
    s.kstate = .send ∨ s.kstate = .ieg → s.ktimer = 0xFFFFFFFF → execAll is s = .next t →
    t.kstate = s.kstate ∧ t.tx = s.tx ∧ t.ktimer = 0xFFFFFFFF ∧ t.mode ≠ .straight

/-- The tick-wrap hazard with a deadline that wraps: an element (a dah where the address ends in 1, else a dit) that a
poll starts, from `Eval` or from the Iambic-B memory, so close to the wrap that its own duration wraps the deadline, is
ended by the very next poll, at the same tick (70_reset_and_hazards.md R240 (b)). -/
def Obligations.WrappedDeadlineEndsAtOnce : Prop :=
  ∀ (s t : State) (x y : Samples), s.kstate ≠ .send → exec (pollOp x) s = .next t → t.kstate = .send →
    (t.maddr.getLsbD 0 = false → 4294967296 ≤ s.tick.toNat + s.profile.tDit.toNat) →
    (t.maddr.getLsbD 0 = true → 4294967296 ≤ s.tick.toNat + s.profile.tDah.toNat) →
    ∃ u, exec (pollOp y) t = .next u ∧ u.kstate = .ieg ∧ u.tx = false ∧ u.tick = s.tick

/-- The same hazard in the gaps: a gap entered so close to the wrap that its deadline wraps is ended by the very next
poll, at the same tick, whatever the paddles do (70_reset_and_hazards.md R240 (b)). -/
def Obligations.WrappedGapEndsAtOnce : Prop :=
  ∀ (s t : State) (x y : Samples), exec (pollOp x) s = .next t → t.kstate ≠ s.kstate →
    (t.kstate = .ieg → 4294967296 ≤ s.tick.toNat + s.profile.tIeg.toNat →
      ∃ u, exec (pollOp y) t = .next u ∧ (u.kstate = .lgap ∨ u.kstate = .send) ∧ u.tick = s.tick) ∧
    (t.kstate = .lgap → 4294967296 ≤ s.tick.toNat + s.profile.tLgapDec.toNat →
      ∃ u, exec (pollOp y) t = .next u ∧ u.kstate = .wgap ∧ u.tick = s.tick) ∧
    (t.kstate = .wgap → 4294967296 ≤ s.tick.toNat + s.profile.tWgapDec.toNat →
      ∃ u, exec (pollOp y) t = .next u ∧ u.kstate = .idle ∧ u.tick = s.tick)

/-! ## Decoder -/

/-- `RESOLVE`: the events by address, in the order of the tests, then the address back to 1 and nothing else changed
(43_morse_decoder.md R173 to R178). -/
def Obligations.ResolutionEmitsByAddress : Prop :=
  ∀ s : State,
    resolve Config.params s = { s with maddr := 1, trace := (resolve Config.params s).trace } ∧
    (s.maddr = 0 → (resolve Config.params s).trace = s.trace ++ [.clrline]) ∧
    (s.maddr = Config.params.addrBreak ∨ s.maddr = Config.params.addrSk →
      (resolve Config.params s).trace = s.trace) ∧
    (s.maddr ≠ 0 → s.maddr ≠ Config.params.addrBreak → s.maddr ≠ Config.params.addrSk →
      ∃ c : Byte, (resolve Config.params s).trace =
          s.trace ++ (if s.record = true then [.char c, .record c] else [.char c]) ∧
        (∀ h : s.maddr.toNat < 128, c = Config.params.decodeTable ⟨s.maddr.toNat, h⟩) ∧
        (128 ≤ s.maddr.toNat → c = 0x2A)) ∧
    Config.params.addrBreak ≠ Config.params.addrSk ∧
    (∀ a ∈ ([0, 1, 2, 3, 5] : List Byte), a ≠ Config.params.addrBreak ∧ a ≠ Config.params.addrSk)

/-- The three characters the source fixes come out for one dit, one dah, and dit then dah (20_memory.md R62). -/
def Obligations.FixedCharactersResolve : Prop :=
  ∀ s : State, s.record = false →
    (s.maddr = pushAll 1 [.dit] → (resolve Config.params s).trace = s.trace ++ [.char 0x45]) ∧
    (s.maddr = pushAll 1 [.dah] → (resolve Config.params s).trace = s.trace ++ [.char 0x54]) ∧
    (s.maddr = pushAll 1 [.dit, .dah] → (resolve Config.params s).trace = s.trace ++ [.char 0x41])

/-- The address of a string of symbols: the sentinel and the symbols up to seven of them, the last eight symbols from
eight on (30_encoding.md R94). -/
def Obligations.AddressOfASymbolString : Prop :=
  ∀ syms : List Symbol,
    (syms.length ≤ 7 → (pushAll 1 syms).toNat = 2 ^ syms.length + symbolValue syms) ∧
    (syms.length = 7 → 128 ≤ (pushAll 1 syms).toNat) ∧
    (8 ≤ syms.length → (pushAll 1 syms).toNat = symbolValue (lastEight syms))

/-- The address is 0 exactly after at least eight symbols the last eight of which are dits
(43_morse_decoder.md R172, marked derived there; 90_conflicts.md C4). -/
def Obligations.AddressZeroNeedsEightDits : Prop :=
  ∀ syms : List Symbol, pushAll 1 syms = 0 ↔ 8 ≤ syms.length ∧ ∀ sym ∈ lastEight syms, sym = .dit

/-! ## Sidetone oscillator -/

/-- OFF arm: with `tx` = 0 an `AUDIOTICK` forces the pair to its initial values and the sample to the midpoint,
whatever the configuration, and changes nothing else (44_sidetone_oscillator.md R186). -/
def Obligations.AudiotickOffResetsThePhase : Prop :=
  ∀ s : State, s.tx = false → ∃ t, exec .audiotick s = .next t ∧ t.sinv.toInt = 0 ∧
    t.cosv.toInt = Config.params.cosInit ∧ t.pwm.toNat = 128 ∧
    t = { s with sinv := t.sinv, cosv := t.cosv, pwm := t.pwm }

/-- ON arm: the recurrence in exact integers with floor shifts and a wrap into eight signed bits, the second line with
the new sine, then the sample of the new sine, shifted by `VOL_MAX - vol`; nothing else changes
(44_sidetone_oscillator.md R187 to R190). A volume above `VOL_MAX`, which no run reaches (`State.Inv.volume`), has no
shift in the spec, and nothing is said of its sample. -/
def Obligations.AudiotickOnAdvancesThePair : Prop :=
  ∀ (s : State) (delta : Nat), s.tx = true → s.toneW = true → s.volW = true →
    (s.tone = false → delta = Config.params.delta0) → (s.tone = true → delta = Config.params.delta1) →
    ∃ t, exec .audiotick s = .next t ∧
      t.sinv.toInt =
        Int.bmod (s.sinv.toInt + Int.fdiv (delta * s.cosv.toInt) (2 ^ Config.params.oscShift)) 256 ∧
      t.cosv.toInt =
        Int.bmod (s.cosv.toInt - Int.fdiv (delta * t.sinv.toInt) (2 ^ Config.params.oscShift)) 256 ∧
      (∀ shift : Nat, shift + s.vol.toNat = Config.params.volMax →
        (t.pwm.toNat : Int) = (128 + Int.fdiv t.sinv.toInt (2 ^ shift)) % 256) ∧
      t = { s with sinv := t.sinv, cosv := t.cosv, pwm := t.pwm }

/-- The sample's sum never leaves 0..255, whatever the sine register, the volume and the open parameters
(44_sidetone_oscillator.md R188), and at a shift of 7 or more it is 128 or 127. The shift of a volume above `VOL_MAX`,
which no run holds, is the model's choice (log entry 14). -/
def Obligations.PwmSampleNeverWraps : Prop :=
  ∀ (p : Params) (vol sinv : Byte),
    ((pwmSample p vol sinv).toNat : Int) = 128 + Int.fdiv sinv.toInt (2 ^ volShift p vol) ∧
    (7 ≤ volShift p vol → (pwmSample p vol sinv).toNat = if sinv.toInt < 0 then 127 else 128)

/-- The oscillator reads only `tx`, `tone`, `vol` (with their written-bits) and its own pair
(44_sidetone_oscillator.md R185, R192). -/
def Obligations.OscillatorReadsOnlyItsInputs : Prop :=
  ∀ s s' t : State, s.tx = s'.tx → s.tone = s'.tone → s.vol = s'.vol → s.toneW = s'.toneW → s.volW = s'.volW →
    s.sinv = s'.sinv → s.cosv = s'.cosv → exec .audiotick s = .next t →
    ∃ t', exec .audiotick s' = .next t' ∧ t'.sinv = t.sinv ∧ t'.cosv = t.cosv ∧ t'.pwm = t.pwm

/-- Phase continuity: after an `AUDIOTICK` with the key up, a burst of any length repeats the burst of a machine that
starts from reset, sample by sample (44_sidetone_oscillator.md R191). -/
def Obligations.BurstRepeatsTheColdStart : Prop :=
  ∀ (s u : State) (tone : Bool) (vol : Byte) (n : Nat), s.tx = false → exec .audiotick s = .next u →
    ∃ a b, execAll (audioTicks n) { u with tx := true, tone := tone, vol := vol, toneW := true, volW := true } = .next a ∧
      execAll (audioTicks n) { State.reset with tx := true, tone := tone, vol := vol, toneW := true, volW := true } =
        .next b ∧ a.sinv = b.sinv ∧ a.cosv = b.cosv ∧ a.pwm = b.pwm

/-- A `POLL` leaves the sample as it was, and the next `AUDIOTICK` sees the transmit flag it left
(20_memory.md R68, 70_reset_and_hazards.md R241). -/
def Obligations.AudioSeesTheCommittedTransmitFlag : Prop :=
  ∀ (s t : State) (x : Samples), exec (pollOp x) s = .next t →
    t.pwm = s.pwm ∧ t.sinv = s.sinv ∧ t.cosv = s.cosv ∧
    (t.tx = false → ∃ u, exec .audiotick t = .next u ∧ u.pwm.toNat = 128 ∧ u.sinv = 0 ∧
      u.cosv.toInt = Config.params.cosInit) ∧
    (t.tx = true → s.toneW = true → s.volW = true → ∃ u, exec .audiotick t = .next u ∧
      u.sinv = nextSin Config.params s.tone s.sinv s.cosv ∧
      (s.vol.toNat ≤ Config.params.volMax → u.pwm = pwmSample Config.params s.vol u.sinv))

/-! ## The whole machine -/

/-- The single-writer discipline: no operation but `RESET` writes a register of another context (20_memory.md R67). -/
def Obligations.EachContextWritesOnlyItsRegisters : Prop :=
  ∀ (i : Instr) (s t : State), exec i s = .next t → i ≠ .reset →
    (agentOf i ≠ .msTick → t.tick = s.tick) ∧
    (agentOf i ≠ .pollLoop → t.kstate = s.kstate ∧ t.flags = s.flags ∧ t.ktimer = s.ktimer ∧ t.maddr = s.maddr ∧
      t.tx = s.tx) ∧
    (agentOf i ≠ .audio → t.sinv = s.sinv ∧ t.cosv = s.cosv ∧ t.pwm = s.pwm) ∧
    (agentOf i ≠ .host → t.wpm = s.wpm ∧ t.mode = s.mode ∧ t.swap = s.swap ∧ t.record = s.record ∧
      t.profile = s.profile ∧ t.profValid = s.profValid ∧ t.tone = s.tone ∧ t.vol = s.vol ∧ t.wpmW = s.wpmW ∧
      t.modeW = s.modeW ∧ t.swapW = s.swapW ∧ t.toneW = s.toneW ∧ t.volW = s.volW ∧ t.recW = s.recW)

/-- Events are only ever appended, only by a poll, and each poll emits nothing or what the spec lists for its arm: one
`ACTIVITY` where the reader runs (`ReaderRuns`), `WORD` at the word boundary, and at the letter boundary `CLRLINE` for
address 0, or, at any other address, a character alone or with its record as the record flag says
(41_paddle_reader_tick.md R133, R135; 42_keyer_fsm.md R148, R149; 43_morse_decoder.md R173). -/
def Obligations.EventsAreAppendedByPolls : Prop :=
  ∀ (i : Instr) (s t : State), exec i s = .next t →
    ∃ es : List Event, t.trace = s.trace ++ es ∧
      (es = [] ∨ agentOf i = .pollLoop ∧
        ((es = [.activity] ∧ s.ReaderRuns) ∨
          (s.mode ≠ .straight ∧ s.ktimer.toNat < s.tick.toNat ∧
            ((es = [.word] ∧ s.kstate = .wgap ∧ t.kstate = .idle) ∨
              (s.kstate = .lgap ∧ t.kstate = .wgap ∧
                ((es = [.clrline] ∧ s.maddr = 0) ∨
                  (s.maddr ≠ 0 ∧ ((s.record = false ∧ ∃ c, es = [.char c]) ∨
                    (s.record = true ∧ ∃ c, es = [.char c, .record c])))))))))

/-- `MSTICK` and `AUDIOTICK` commute (60_exceptions.md R216, marked derived there). -/
def Obligations.TheTwoInterruptsCommute : Prop :=
  ∀ s : State, execAll [.mstick, .audiotick] s = execAll [.audiotick, .mstick] s

/-- The machine invariant is kept by every step, whatever the schedule holds (10_state.md R28, R33). -/
def Obligations.InvariantKeptByEveryStep : Prop :=
  ∀ s t : State, s.Inv → step s = .next t → t.Inv

/-- The machine invariant holds at reset, and the transmitter is keyed only in `Send` there. -/
def Obligations.InvariantHoldsAtReset : Prop :=
  State.reset.Inv ∧ State.reset.KeyedOnlyInSend

/-- `tx` = 1 exactly in `Send`: kept by every operation but a poll in Straight mode (10_state.md R33 (iv)). -/
def Obligations.KeyedOnlyInSendIsKept : Prop :=
  ∀ (i : Instr) (s t : State), s.KeyedOnlyInSend → (agentOf i = .pollLoop → s.mode ≠ .straight) →
    exec i s = .next t → t.KeyedOnlyInSend

/-- What is unspecified never shows: two states that agree on every specified register, and on each of the others once
it has been written, are refused together or go on to two states that agree in the same way. So neither the reset
values of log entry 2 nor the free values of log entry 3 influence a run (10_state.md R34; 70_reset_and_hazards.md
R232). -/
def Obligations.UnspecifiedRegistersNeverShow : Prop :=
  ∀ (i : Instr) (s s' : State), SameSpecified s s' →
    (∀ t, exec i s = .next t → ∃ t', exec i s' = .next t' ∧ SameSpecified t t') ∧
    (∀ r, exec i s = .refused r → exec i s' = .refused r)
end

