-- ==== Sys2Proof/Laws/State.lean ====
section
/-! SUPPORT. What each named update does to each field of the state: one lemma per field per update, true by rfl. -/

namespace Sys2Proof.Machine

/-! ### `emit` -/

@[simp] theorem emit_tick (es : List Event) (s : State) : (emit es s).tick = s.tick := rfl
@[simp] theorem emit_kstate (es : List Event) (s : State) : (emit es s).kstate = s.kstate := rfl
@[simp] theorem emit_flags (es : List Event) (s : State) : (emit es s).flags = s.flags := rfl
@[simp] theorem emit_ktimer (es : List Event) (s : State) : (emit es s).ktimer = s.ktimer := rfl
@[simp] theorem emit_tx (es : List Event) (s : State) : (emit es s).tx = s.tx := rfl
@[simp] theorem emit_maddr (es : List Event) (s : State) : (emit es s).maddr = s.maddr := rfl
@[simp] theorem emit_profile (es : List Event) (s : State) : (emit es s).profile = s.profile := rfl
@[simp] theorem emit_profValid (es : List Event) (s : State) : (emit es s).profValid = s.profValid := rfl
@[simp] theorem emit_wpm (es : List Event) (s : State) : (emit es s).wpm = s.wpm := rfl
@[simp] theorem emit_mode (es : List Event) (s : State) : (emit es s).mode = s.mode := rfl
@[simp] theorem emit_swap (es : List Event) (s : State) : (emit es s).swap = s.swap := rfl
@[simp] theorem emit_tone (es : List Event) (s : State) : (emit es s).tone = s.tone := rfl
@[simp] theorem emit_vol (es : List Event) (s : State) : (emit es s).vol = s.vol := rfl
@[simp] theorem emit_record (es : List Event) (s : State) : (emit es s).record = s.record := rfl
@[simp] theorem emit_wpmW (es : List Event) (s : State) : (emit es s).wpmW = s.wpmW := rfl
@[simp] theorem emit_modeW (es : List Event) (s : State) : (emit es s).modeW = s.modeW := rfl
@[simp] theorem emit_swapW (es : List Event) (s : State) : (emit es s).swapW = s.swapW := rfl
@[simp] theorem emit_toneW (es : List Event) (s : State) : (emit es s).toneW = s.toneW := rfl
@[simp] theorem emit_volW (es : List Event) (s : State) : (emit es s).volW = s.volW := rfl
@[simp] theorem emit_recW (es : List Event) (s : State) : (emit es s).recW = s.recW := rfl
@[simp] theorem emit_sinv (es : List Event) (s : State) : (emit es s).sinv = s.sinv := rfl
@[simp] theorem emit_cosv (es : List Event) (s : State) : (emit es s).cosv = s.cosv := rfl
@[simp] theorem emit_pwm (es : List Event) (s : State) : (emit es s).pwm = s.pwm := rfl
@[simp] theorem emit_trace (es : List Event) (s : State) : (emit es s).trace = s.trace ++ es := rfl
@[simp] theorem emit_schedule (es : List Event) (s : State) : (emit es s).schedule = s.schedule := rfl
@[simp] theorem emit_freeCtr (es : List Event) (s : State) : (emit es s).freeCtr = s.freeCtr := rfl

/-! ### `paddleRead` -/

@[simp] theorem paddleRead_tick (x : Samples) (s : State) : (paddleRead x s).tick = s.tick := rfl
@[simp] theorem paddleRead_kstate (x : Samples) (s : State) : (paddleRead x s).kstate = s.kstate := rfl
@[simp] theorem paddleRead_flags (x : Samples) (s : State) : (paddleRead x s).flags = readerFlags (ditPressed s.swap x) (dahPressed s.swap x) s.flags := rfl
@[simp] theorem paddleRead_ktimer (x : Samples) (s : State) : (paddleRead x s).ktimer = s.ktimer := rfl
@[simp] theorem paddleRead_tx (x : Samples) (s : State) : (paddleRead x s).tx = s.tx := rfl
@[simp] theorem paddleRead_maddr (x : Samples) (s : State) : (paddleRead x s).maddr = s.maddr := rfl
@[simp] theorem paddleRead_profile (x : Samples) (s : State) : (paddleRead x s).profile = s.profile := rfl
@[simp] theorem paddleRead_profValid (x : Samples) (s : State) : (paddleRead x s).profValid = s.profValid := rfl
@[simp] theorem paddleRead_wpm (x : Samples) (s : State) : (paddleRead x s).wpm = s.wpm := rfl
@[simp] theorem paddleRead_mode (x : Samples) (s : State) : (paddleRead x s).mode = s.mode := rfl
@[simp] theorem paddleRead_swap (x : Samples) (s : State) : (paddleRead x s).swap = s.swap := rfl
@[simp] theorem paddleRead_tone (x : Samples) (s : State) : (paddleRead x s).tone = s.tone := rfl
@[simp] theorem paddleRead_vol (x : Samples) (s : State) : (paddleRead x s).vol = s.vol := rfl
@[simp] theorem paddleRead_record (x : Samples) (s : State) : (paddleRead x s).record = s.record := rfl
@[simp] theorem paddleRead_wpmW (x : Samples) (s : State) : (paddleRead x s).wpmW = s.wpmW := rfl
@[simp] theorem paddleRead_modeW (x : Samples) (s : State) : (paddleRead x s).modeW = s.modeW := rfl
@[simp] theorem paddleRead_swapW (x : Samples) (s : State) : (paddleRead x s).swapW = s.swapW := rfl
@[simp] theorem paddleRead_toneW (x : Samples) (s : State) : (paddleRead x s).toneW = s.toneW := rfl
@[simp] theorem paddleRead_volW (x : Samples) (s : State) : (paddleRead x s).volW = s.volW := rfl
@[simp] theorem paddleRead_recW (x : Samples) (s : State) : (paddleRead x s).recW = s.recW := rfl
@[simp] theorem paddleRead_sinv (x : Samples) (s : State) : (paddleRead x s).sinv = s.sinv := rfl
@[simp] theorem paddleRead_cosv (x : Samples) (s : State) : (paddleRead x s).cosv = s.cosv := rfl
@[simp] theorem paddleRead_pwm (x : Samples) (s : State) : (paddleRead x s).pwm = s.pwm := rfl
@[simp] theorem paddleRead_trace (x : Samples) (s : State) : (paddleRead x s).trace = s.trace ++ readerEvents (ditPressed s.swap x) (dahPressed s.swap x) := rfl
@[simp] theorem paddleRead_schedule (x : Samples) (s : State) : (paddleRead x s).schedule = s.schedule := rfl
@[simp] theorem paddleRead_freeCtr (x : Samples) (s : State) : (paddleRead x s).freeCtr = s.freeCtr := rfl

/-! ### `enterSend` -/

@[simp] theorem enterSend_tick (sym : Symbol) (s : State) : (enterSend sym s).tick = s.tick := rfl
@[simp] theorem enterSend_kstate (sym : Symbol) (s : State) : (enterSend sym s).kstate = .send := rfl
@[simp] theorem enterSend_flags (sym : Symbol) (s : State) : (enterSend sym s).flags = s.flags := rfl
@[simp] theorem enterSend_ktimer (sym : Symbol) (s : State) : (enterSend sym s).ktimer = deadline s.tick (elementDuration s.profile sym) := rfl
@[simp] theorem enterSend_tx (sym : Symbol) (s : State) : (enterSend sym s).tx = true := rfl
@[simp] theorem enterSend_maddr (sym : Symbol) (s : State) : (enterSend sym s).maddr = pushSymbol s.maddr sym := rfl
@[simp] theorem enterSend_profile (sym : Symbol) (s : State) : (enterSend sym s).profile = s.profile := rfl
@[simp] theorem enterSend_profValid (sym : Symbol) (s : State) : (enterSend sym s).profValid = s.profValid := rfl
@[simp] theorem enterSend_wpm (sym : Symbol) (s : State) : (enterSend sym s).wpm = s.wpm := rfl
@[simp] theorem enterSend_mode (sym : Symbol) (s : State) : (enterSend sym s).mode = s.mode := rfl
@[simp] theorem enterSend_swap (sym : Symbol) (s : State) : (enterSend sym s).swap = s.swap := rfl
@[simp] theorem enterSend_tone (sym : Symbol) (s : State) : (enterSend sym s).tone = s.tone := rfl
@[simp] theorem enterSend_vol (sym : Symbol) (s : State) : (enterSend sym s).vol = s.vol := rfl
@[simp] theorem enterSend_record (sym : Symbol) (s : State) : (enterSend sym s).record = s.record := rfl
@[simp] theorem enterSend_wpmW (sym : Symbol) (s : State) : (enterSend sym s).wpmW = s.wpmW := rfl
@[simp] theorem enterSend_modeW (sym : Symbol) (s : State) : (enterSend sym s).modeW = s.modeW := rfl
@[simp] theorem enterSend_swapW (sym : Symbol) (s : State) : (enterSend sym s).swapW = s.swapW := rfl
@[simp] theorem enterSend_toneW (sym : Symbol) (s : State) : (enterSend sym s).toneW = s.toneW := rfl
@[simp] theorem enterSend_volW (sym : Symbol) (s : State) : (enterSend sym s).volW = s.volW := rfl
@[simp] theorem enterSend_recW (sym : Symbol) (s : State) : (enterSend sym s).recW = s.recW := rfl
@[simp] theorem enterSend_sinv (sym : Symbol) (s : State) : (enterSend sym s).sinv = s.sinv := rfl
@[simp] theorem enterSend_cosv (sym : Symbol) (s : State) : (enterSend sym s).cosv = s.cosv := rfl
@[simp] theorem enterSend_pwm (sym : Symbol) (s : State) : (enterSend sym s).pwm = s.pwm := rfl
@[simp] theorem enterSend_trace (sym : Symbol) (s : State) : (enterSend sym s).trace = s.trace := rfl
@[simp] theorem enterSend_schedule (sym : Symbol) (s : State) : (enterSend sym s).schedule = s.schedule := rfl
@[simp] theorem enterSend_freeCtr (sym : Symbol) (s : State) : (enterSend sym s).freeCtr = s.freeCtr := rfl

/-! ### `resolve` -/

@[simp] theorem resolve_tick (p : Params) (s : State) : (resolve p s).tick = s.tick := rfl
@[simp] theorem resolve_kstate (p : Params) (s : State) : (resolve p s).kstate = s.kstate := rfl
@[simp] theorem resolve_flags (p : Params) (s : State) : (resolve p s).flags = s.flags := rfl
@[simp] theorem resolve_ktimer (p : Params) (s : State) : (resolve p s).ktimer = s.ktimer := rfl
@[simp] theorem resolve_tx (p : Params) (s : State) : (resolve p s).tx = s.tx := rfl
@[simp] theorem resolve_maddr (p : Params) (s : State) : (resolve p s).maddr = sentinel := rfl
@[simp] theorem resolve_profile (p : Params) (s : State) : (resolve p s).profile = s.profile := rfl
@[simp] theorem resolve_profValid (p : Params) (s : State) : (resolve p s).profValid = s.profValid := rfl
@[simp] theorem resolve_wpm (p : Params) (s : State) : (resolve p s).wpm = s.wpm := rfl
@[simp] theorem resolve_mode (p : Params) (s : State) : (resolve p s).mode = s.mode := rfl
@[simp] theorem resolve_swap (p : Params) (s : State) : (resolve p s).swap = s.swap := rfl
@[simp] theorem resolve_tone (p : Params) (s : State) : (resolve p s).tone = s.tone := rfl
@[simp] theorem resolve_vol (p : Params) (s : State) : (resolve p s).vol = s.vol := rfl
@[simp] theorem resolve_record (p : Params) (s : State) : (resolve p s).record = s.record := rfl
@[simp] theorem resolve_wpmW (p : Params) (s : State) : (resolve p s).wpmW = s.wpmW := rfl
@[simp] theorem resolve_modeW (p : Params) (s : State) : (resolve p s).modeW = s.modeW := rfl
@[simp] theorem resolve_swapW (p : Params) (s : State) : (resolve p s).swapW = s.swapW := rfl
@[simp] theorem resolve_toneW (p : Params) (s : State) : (resolve p s).toneW = s.toneW := rfl
@[simp] theorem resolve_volW (p : Params) (s : State) : (resolve p s).volW = s.volW := rfl
@[simp] theorem resolve_recW (p : Params) (s : State) : (resolve p s).recW = s.recW := rfl
@[simp] theorem resolve_sinv (p : Params) (s : State) : (resolve p s).sinv = s.sinv := rfl
@[simp] theorem resolve_cosv (p : Params) (s : State) : (resolve p s).cosv = s.cosv := rfl
@[simp] theorem resolve_pwm (p : Params) (s : State) : (resolve p s).pwm = s.pwm := rfl
@[simp] theorem resolve_trace (p : Params) (s : State) : (resolve p s).trace = s.trace ++ resolveEvents p s.maddr s.record := rfl
@[simp] theorem resolve_schedule (p : Params) (s : State) : (resolve p s).schedule = s.schedule := rfl
@[simp] theorem resolve_freeCtr (p : Params) (s : State) : (resolve p s).freeCtr = s.freeCtr := rfl

/-! ### `audioOff` -/

@[simp] theorem audioOff_tick (p : Params) (s : State) : (audioOff p s).tick = s.tick := rfl
@[simp] theorem audioOff_kstate (p : Params) (s : State) : (audioOff p s).kstate = s.kstate := rfl
@[simp] theorem audioOff_flags (p : Params) (s : State) : (audioOff p s).flags = s.flags := rfl
@[simp] theorem audioOff_ktimer (p : Params) (s : State) : (audioOff p s).ktimer = s.ktimer := rfl
@[simp] theorem audioOff_tx (p : Params) (s : State) : (audioOff p s).tx = s.tx := rfl
@[simp] theorem audioOff_maddr (p : Params) (s : State) : (audioOff p s).maddr = s.maddr := rfl
@[simp] theorem audioOff_profile (p : Params) (s : State) : (audioOff p s).profile = s.profile := rfl
@[simp] theorem audioOff_profValid (p : Params) (s : State) : (audioOff p s).profValid = s.profValid := rfl
@[simp] theorem audioOff_wpm (p : Params) (s : State) : (audioOff p s).wpm = s.wpm := rfl
@[simp] theorem audioOff_mode (p : Params) (s : State) : (audioOff p s).mode = s.mode := rfl
@[simp] theorem audioOff_swap (p : Params) (s : State) : (audioOff p s).swap = s.swap := rfl
@[simp] theorem audioOff_tone (p : Params) (s : State) : (audioOff p s).tone = s.tone := rfl
@[simp] theorem audioOff_vol (p : Params) (s : State) : (audioOff p s).vol = s.vol := rfl
@[simp] theorem audioOff_record (p : Params) (s : State) : (audioOff p s).record = s.record := rfl
@[simp] theorem audioOff_wpmW (p : Params) (s : State) : (audioOff p s).wpmW = s.wpmW := rfl
@[simp] theorem audioOff_modeW (p : Params) (s : State) : (audioOff p s).modeW = s.modeW := rfl
@[simp] theorem audioOff_swapW (p : Params) (s : State) : (audioOff p s).swapW = s.swapW := rfl
@[simp] theorem audioOff_toneW (p : Params) (s : State) : (audioOff p s).toneW = s.toneW := rfl
@[simp] theorem audioOff_volW (p : Params) (s : State) : (audioOff p s).volW = s.volW := rfl
@[simp] theorem audioOff_recW (p : Params) (s : State) : (audioOff p s).recW = s.recW := rfl
@[simp] theorem audioOff_sinv (p : Params) (s : State) : (audioOff p s).sinv = 0 := rfl
@[simp] theorem audioOff_cosv (p : Params) (s : State) : (audioOff p s).cosv = BitVec.ofNat 8 p.cosInit := rfl
@[simp] theorem audioOff_pwm (p : Params) (s : State) : (audioOff p s).pwm = BitVec.ofNat 8 pwmMid := rfl
@[simp] theorem audioOff_trace (p : Params) (s : State) : (audioOff p s).trace = s.trace := rfl
@[simp] theorem audioOff_schedule (p : Params) (s : State) : (audioOff p s).schedule = s.schedule := rfl
@[simp] theorem audioOff_freeCtr (p : Params) (s : State) : (audioOff p s).freeCtr = s.freeCtr := rfl

/-! ### `audioOn` -/

@[simp] theorem audioOn_tick (p : Params) (s : State) : (audioOn p s).tick = s.tick := rfl
@[simp] theorem audioOn_kstate (p : Params) (s : State) : (audioOn p s).kstate = s.kstate := rfl
@[simp] theorem audioOn_flags (p : Params) (s : State) : (audioOn p s).flags = s.flags := rfl
@[simp] theorem audioOn_ktimer (p : Params) (s : State) : (audioOn p s).ktimer = s.ktimer := rfl
@[simp] theorem audioOn_tx (p : Params) (s : State) : (audioOn p s).tx = s.tx := rfl
@[simp] theorem audioOn_maddr (p : Params) (s : State) : (audioOn p s).maddr = s.maddr := rfl
@[simp] theorem audioOn_profile (p : Params) (s : State) : (audioOn p s).profile = s.profile := rfl
@[simp] theorem audioOn_profValid (p : Params) (s : State) : (audioOn p s).profValid = s.profValid := rfl
@[simp] theorem audioOn_wpm (p : Params) (s : State) : (audioOn p s).wpm = s.wpm := rfl
@[simp] theorem audioOn_mode (p : Params) (s : State) : (audioOn p s).mode = s.mode := rfl
@[simp] theorem audioOn_swap (p : Params) (s : State) : (audioOn p s).swap = s.swap := rfl
@[simp] theorem audioOn_tone (p : Params) (s : State) : (audioOn p s).tone = s.tone := rfl
@[simp] theorem audioOn_vol (p : Params) (s : State) : (audioOn p s).vol = s.vol := rfl
@[simp] theorem audioOn_record (p : Params) (s : State) : (audioOn p s).record = s.record := rfl
@[simp] theorem audioOn_wpmW (p : Params) (s : State) : (audioOn p s).wpmW = s.wpmW := rfl
@[simp] theorem audioOn_modeW (p : Params) (s : State) : (audioOn p s).modeW = s.modeW := rfl
@[simp] theorem audioOn_swapW (p : Params) (s : State) : (audioOn p s).swapW = s.swapW := rfl
@[simp] theorem audioOn_toneW (p : Params) (s : State) : (audioOn p s).toneW = s.toneW := rfl
@[simp] theorem audioOn_volW (p : Params) (s : State) : (audioOn p s).volW = s.volW := rfl
@[simp] theorem audioOn_recW (p : Params) (s : State) : (audioOn p s).recW = s.recW := rfl
@[simp] theorem audioOn_sinv (p : Params) (s : State) : (audioOn p s).sinv = nextSin p s.tone s.sinv s.cosv := rfl
@[simp] theorem audioOn_cosv (p : Params) (s : State) : (audioOn p s).cosv = nextCos p s.tone (nextSin p s.tone s.sinv s.cosv) s.cosv := rfl
@[simp] theorem audioOn_pwm (p : Params) (s : State) : (audioOn p s).pwm = pwmSample p s.vol (nextSin p s.tone s.sinv s.cosv) := rfl
@[simp] theorem audioOn_trace (p : Params) (s : State) : (audioOn p s).trace = s.trace := rfl
@[simp] theorem audioOn_schedule (p : Params) (s : State) : (audioOn p s).schedule = s.schedule := rfl
@[simp] theorem audioOn_freeCtr (p : Params) (s : State) : (audioOn p s).freeCtr = s.freeCtr := rfl

/-! ### `resetWith` -/

@[simp] theorem resetWith_tick (p : Params) (l : LeftByReset) (s : State) : (resetWith p l s).tick = s.tick := rfl
@[simp] theorem resetWith_kstate (p : Params) (l : LeftByReset) (s : State) : (resetWith p l s).kstate = .idle := rfl
@[simp] theorem resetWith_flags (p : Params) (l : LeftByReset) (s : State) : (resetWith p l s).flags = Flags.clear := rfl
@[simp] theorem resetWith_ktimer (p : Params) (l : LeftByReset) (s : State) : (resetWith p l s).ktimer = l.ktimer := rfl
@[simp] theorem resetWith_tx (p : Params) (l : LeftByReset) (s : State) : (resetWith p l s).tx = false := rfl
@[simp] theorem resetWith_maddr (p : Params) (l : LeftByReset) (s : State) : (resetWith p l s).maddr = sentinel := rfl
@[simp] theorem resetWith_profile (p : Params) (l : LeftByReset) (s : State) : (resetWith p l s).profile = l.profile := rfl
@[simp] theorem resetWith_profValid (p : Params) (l : LeftByReset) (s : State) : (resetWith p l s).profValid = false := rfl
@[simp] theorem resetWith_wpm (p : Params) (l : LeftByReset) (s : State) : (resetWith p l s).wpm = l.wpm := rfl
@[simp] theorem resetWith_mode (p : Params) (l : LeftByReset) (s : State) : (resetWith p l s).mode = l.mode := rfl
@[simp] theorem resetWith_swap (p : Params) (l : LeftByReset) (s : State) : (resetWith p l s).swap = l.swap := rfl
@[simp] theorem resetWith_tone (p : Params) (l : LeftByReset) (s : State) : (resetWith p l s).tone = l.tone := rfl
@[simp] theorem resetWith_vol (p : Params) (l : LeftByReset) (s : State) : (resetWith p l s).vol = l.vol := rfl
@[simp] theorem resetWith_record (p : Params) (l : LeftByReset) (s : State) : (resetWith p l s).record = l.record := rfl
@[simp] theorem resetWith_wpmW (p : Params) (l : LeftByReset) (s : State) : (resetWith p l s).wpmW = false := rfl
@[simp] theorem resetWith_modeW (p : Params) (l : LeftByReset) (s : State) : (resetWith p l s).modeW = false := rfl
@[simp] theorem resetWith_swapW (p : Params) (l : LeftByReset) (s : State) : (resetWith p l s).swapW = false := rfl
@[simp] theorem resetWith_toneW (p : Params) (l : LeftByReset) (s : State) : (resetWith p l s).toneW = false := rfl
@[simp] theorem resetWith_volW (p : Params) (l : LeftByReset) (s : State) : (resetWith p l s).volW = false := rfl
@[simp] theorem resetWith_recW (p : Params) (l : LeftByReset) (s : State) : (resetWith p l s).recW = false := rfl
@[simp] theorem resetWith_sinv (p : Params) (l : LeftByReset) (s : State) : (resetWith p l s).sinv = 0 := rfl
@[simp] theorem resetWith_cosv (p : Params) (l : LeftByReset) (s : State) : (resetWith p l s).cosv = BitVec.ofNat 8 p.cosInit := rfl
@[simp] theorem resetWith_pwm (p : Params) (l : LeftByReset) (s : State) : (resetWith p l s).pwm = BitVec.ofNat 8 pwmMid := rfl
@[simp] theorem resetWith_trace (p : Params) (l : LeftByReset) (s : State) : (resetWith p l s).trace = s.trace := rfl
@[simp] theorem resetWith_schedule (p : Params) (l : LeftByReset) (s : State) : (resetWith p l s).schedule = s.schedule := rfl
@[simp] theorem resetWith_freeCtr (p : Params) (l : LeftByReset) (s : State) : (resetWith p l s).freeCtr = s.freeCtr + 1 := rfl

/-! ### `enqueueFront` -/

@[simp] theorem enqueueFront_tick (w : OpWord) (s : State) : (enqueueFront w s).tick = s.tick := rfl
@[simp] theorem enqueueFront_kstate (w : OpWord) (s : State) : (enqueueFront w s).kstate = s.kstate := rfl
@[simp] theorem enqueueFront_flags (w : OpWord) (s : State) : (enqueueFront w s).flags = s.flags := rfl
@[simp] theorem enqueueFront_ktimer (w : OpWord) (s : State) : (enqueueFront w s).ktimer = s.ktimer := rfl
@[simp] theorem enqueueFront_tx (w : OpWord) (s : State) : (enqueueFront w s).tx = s.tx := rfl
@[simp] theorem enqueueFront_maddr (w : OpWord) (s : State) : (enqueueFront w s).maddr = s.maddr := rfl
@[simp] theorem enqueueFront_profile (w : OpWord) (s : State) : (enqueueFront w s).profile = s.profile := rfl
@[simp] theorem enqueueFront_profValid (w : OpWord) (s : State) : (enqueueFront w s).profValid = s.profValid := rfl
@[simp] theorem enqueueFront_wpm (w : OpWord) (s : State) : (enqueueFront w s).wpm = s.wpm := rfl
@[simp] theorem enqueueFront_mode (w : OpWord) (s : State) : (enqueueFront w s).mode = s.mode := rfl
@[simp] theorem enqueueFront_swap (w : OpWord) (s : State) : (enqueueFront w s).swap = s.swap := rfl
@[simp] theorem enqueueFront_tone (w : OpWord) (s : State) : (enqueueFront w s).tone = s.tone := rfl
@[simp] theorem enqueueFront_vol (w : OpWord) (s : State) : (enqueueFront w s).vol = s.vol := rfl
@[simp] theorem enqueueFront_record (w : OpWord) (s : State) : (enqueueFront w s).record = s.record := rfl
@[simp] theorem enqueueFront_wpmW (w : OpWord) (s : State) : (enqueueFront w s).wpmW = s.wpmW := rfl
@[simp] theorem enqueueFront_modeW (w : OpWord) (s : State) : (enqueueFront w s).modeW = s.modeW := rfl
@[simp] theorem enqueueFront_swapW (w : OpWord) (s : State) : (enqueueFront w s).swapW = s.swapW := rfl
@[simp] theorem enqueueFront_toneW (w : OpWord) (s : State) : (enqueueFront w s).toneW = s.toneW := rfl
@[simp] theorem enqueueFront_volW (w : OpWord) (s : State) : (enqueueFront w s).volW = s.volW := rfl
@[simp] theorem enqueueFront_recW (w : OpWord) (s : State) : (enqueueFront w s).recW = s.recW := rfl
@[simp] theorem enqueueFront_sinv (w : OpWord) (s : State) : (enqueueFront w s).sinv = s.sinv := rfl
@[simp] theorem enqueueFront_cosv (w : OpWord) (s : State) : (enqueueFront w s).cosv = s.cosv := rfl
@[simp] theorem enqueueFront_pwm (w : OpWord) (s : State) : (enqueueFront w s).pwm = s.pwm := rfl
@[simp] theorem enqueueFront_trace (w : OpWord) (s : State) : (enqueueFront w s).trace = s.trace := rfl
@[simp] theorem enqueueFront_schedule (w : OpWord) (s : State) : (enqueueFront w s).schedule = w :: s.schedule := rfl
@[simp] theorem enqueueFront_freeCtr (w : OpWord) (s : State) : (enqueueFront w s).freeCtr = s.freeCtr := rfl

/-! ### `readerFlags` -/

@[simp] theorem readerFlags_dit (d h : Bool) (f : Flags) : (readerFlags d h f).dit = d := rfl
@[simp] theorem readerFlags_dah (d h : Bool) (f : Flags) : (readerFlags d h f).dah = h := rfl
@[simp] theorem readerFlags_wasdit (d h : Bool) (f : Flags) : (readerFlags d h f).wasdit = f.wasdit := rfl
@[simp] theorem readerFlags_sqz (d h : Bool) (f : Flags) : (readerFlags d h f).sqz = (d && h) := rfl

/-! ### `setWasdit` -/

@[simp] theorem setWasdit_dit (b : Bool) (f : Flags) : (setWasdit b f).dit = f.dit := rfl
@[simp] theorem setWasdit_dah (b : Bool) (f : Flags) : (setWasdit b f).dah = f.dah := rfl
@[simp] theorem setWasdit_wasdit (b : Bool) (f : Flags) : (setWasdit b f).wasdit = b := rfl
@[simp] theorem setWasdit_sqz (b : Bool) (f : Flags) : (setWasdit b f).sqz = f.sqz := rfl

/-! ### `toggleWasdit` -/

@[simp] theorem toggleWasdit_dit (f : Flags) : (toggleWasdit f).dit = f.dit := rfl
@[simp] theorem toggleWasdit_dah (f : Flags) : (toggleWasdit f).dah = f.dah := rfl
@[simp] theorem toggleWasdit_wasdit (f : Flags) : (toggleWasdit f).wasdit = (!f.wasdit) := rfl
@[simp] theorem toggleWasdit_sqz (f : Flags) : (toggleWasdit f).sqz = f.sqz := rfl

/-! ### `useSqueeze` -/

@[simp] theorem useSqueeze_dit (f : Flags) : (useSqueeze f).dit = f.dit := rfl
@[simp] theorem useSqueeze_dah (f : Flags) : (useSqueeze f).dah = f.dah := rfl
@[simp] theorem useSqueeze_wasdit (f : Flags) : (useSqueeze f).wasdit = (!f.wasdit) := rfl
@[simp] theorem useSqueeze_sqz (f : Flags) : (useSqueeze f).sqz = false := rfl

/-! ### `Flags.clear` -/

@[simp] theorem Flags.clear_dit : Flags.clear.dit = false := rfl
@[simp] theorem Flags.clear_dah : Flags.clear.dah = false := rfl
@[simp] theorem Flags.clear_wasdit : Flags.clear.wasdit = false := rfl
@[simp] theorem Flags.clear_sqz : Flags.clear.sqz = false := rfl

end Sys2Proof.Machine
end

