-- ==== Sys2Proof/Laws/Ops.lean ====
section
/-! SUPPORT. One lemma per shared operation that says everything it can do, for the proofs to cite. -/

namespace Sys2Proof.Machine

/-! ### Arithmetic -/

/-- `asr` is the floor of the quotient (00_scope.md R9). -/
theorem asr_eq_fdiv (x : Int) (n : Nat) : asr x n = Int.fdiv x (2 ^ n) := by
  unfold asr
  rw [Int.fdiv_eq_ediv_of_nonneg _ (by positivity)]
  push_cast; rfl

/-- A wrapped value read as a signed register is the balanced remainder (`wraps_8`, R9). -/
theorem wrap8_toInt (x : Int) : (wrap8 x).toInt = Int.bmod x 256 := by
  rw [wrap8, BitVec.toInt_ofInt]

/-- A wrapped value read as an unsigned register is the remainder (`wrapu_8`, R9). -/
theorem wrap8_toNat (x : Int) : ((wrap8 x).toNat : Int) = x % 256 := by
  simp only [wrap8, BitVec.toNat_ofInt]
  omega

@[simp] theorem wrap32_toNat (x : Nat) : (wrap32 x).toNat = x % 4294967296 := BitVec.toNat_ofNat x 32

@[simp] theorem deadlinePassed_iff (now k : Tick) : deadlinePassed now k = true ↔ k.toNat < now.toNat := by
  simp [deadlinePassed]

theorem pushSymbol_toNat (a : Byte) (sym : Symbol) :
    (pushSymbol a sym).toNat = (2 * a.toNat + symbolBit sym) % 256 := BitVec.toNat_ofNat _ 8

/-- The initial cosine survives the signed 8-bit register (R7: 0 < `COS_INIT` < 128). -/
theorem cosInit_toInt (p : Params) : (BitVec.ofNat 8 p.cosInit).toInt = p.cosInit := by
  have h := p.cosInit_lt
  rw [BitVec.toInt_eq_toNat_cond, BitVec.toNat_ofNat]
  omega

/-! ### Operand ranges -/

@[simp] theorem wpmLegal_iff (n : Byte) : wpmLegal n = true ↔ 10 ≤ n.toNat ∧ n.toNat ≤ 60 := by
  simp only [wpmLegal, Bool.and_eq_true, decide_eq_true_eq]; rfl

@[simp] theorem volTooBig_iff (p : Params) (v : Byte) : volTooBig p v = true ↔ p.volMax < v.toNat := by
  simp only [volTooBig, decide_eq_true_eq]

/-- Everything `SETWPM` can do (40_timing_profile_config.md R110). -/
theorem execSetwpm_cases (n : Byte) (s : State) :
    (10 ≤ n.toNat ∧ n.toNat ≤ 60 ∧ execSetwpm n s =
        .next { s with wpm := n, profile := profileOf n.toNat, wpmW := true, profValid := true }) ∨
      ((n.toNat < 10 ∨ 60 < n.toNat) ∧ execSetwpm n s = .refused (.wpmOutOfRange n)) := by
  unfold execSetwpm
  split
  · next h => exact .inl ⟨((wpmLegal_iff n).mp h).1, ((wpmLegal_iff n).mp h).2, rfl⟩
  · next h => exact .inr ⟨by rw [wpmLegal_iff] at h; omega, rfl⟩

/-- Everything `SETVOL` can do (R118). -/
theorem setvolWith_cases (p : Params) (v : Byte) (s : State) :
    (v.toNat ≤ p.volMax ∧ setvolWith p v s = .next { s with vol := v, volW := true }) ∨
      (p.volMax < v.toNat ∧ setvolWith p v s = .refused (.volOutOfRange v)) := by
  unfold setvolWith
  split
  · next h => exact .inr ⟨(volTooBig_iff p v).mp h, rfl⟩
  · next h => exact .inl ⟨by rw [volTooBig_iff] at h; omega, rfl⟩

/-! ### Paddle Reader -/

theorem keyFound_paddleRead (x : Samples) (s : State) : keyFound (paddleRead x s).flags = true ↔ x.Pressed := by
  obtain ⟨a1, a2, b1, b2⟩ := x
  cases h : s.swap <;> simp [keyFound, ditPressed, dahPressed, lineA, lineB, h, or_comm]

theorem readerEvents_paddle (x : Samples) (s : State) :
    readerEvents (ditPressed s.swap x) (dahPressed s.swap x) = if x.Pressed then [.activity] else [] := by
  have h := keyFound_paddleRead x s
  simp only [keyFound, paddleRead_flags, readerFlags_dit, readerFlags_dah] at h
  simp only [readerEvents]
  split <;> split <;> simp_all

/-! ### EnterSend -/

/-- `EnterSend` in exact arithmetic: the state `elementStarted` of the claims (42_keyer_fsm.md R142). -/
theorem enterSend_eq (sym : Symbol) (f : Flags) (s : State) :
    enterSend sym { s with flags := f } = elementStarted sym f s := by
  cases sym <;> rfl

theorem enterSend_eq_self (sym : Symbol) (s : State) : enterSend sym s = elementStarted sym s.flags s := by
  cases sym <;> rfl

/-! ### The arms -/

/-- Everything the last part of `LGap` and `WGap` can do. -/
theorem readForEval_cases (x : Samples) (s : State) :
    (x.Pressed ∧ readForEval x s = { paddleRead x s with kstate := .eval }) ∨
      (¬ x.Pressed ∧ readForEval x s = paddleRead x s) := by
  have h := keyFound_paddleRead x s
  unfold readForEval
  split <;> simp_all

/-- Everything `Idle` can do (42_keyer_fsm.md R144). -/
theorem armIdle_cases (x : Samples) (s : State) :
    (x.Pressed ∧ armIdle x s = { paddleRead x s with kstate := .eval }) ∨
      (¬ x.Pressed ∧ armIdle x s = { s with flags := Flags.clear, maddr := sentinel }) := by
  have h := keyFound_paddleRead x s
  have e := readerEvents_paddle x s
  unfold armIdle
  split
  · next hk => exact .inl ⟨h.mp hk, rfl⟩
  · next hk =>
    have hp : ¬ x.Pressed := fun hp => hk (h.mpr hp)
    refine .inr ⟨hp, ?_⟩
    simp only [if_neg hp] at e
    simp [paddleRead, emit, e]

/-- Everything `Eval` can do (42_keyer_fsm.md R145): an element started with flags that differ in `WASDIT` only, or `Idle`. -/
theorem armEval_cases (s : State) :
    (∃ sym b, armEval s = elementStarted sym { s.flags with wasdit := b } s) ∨
      (s.flags.sqz = false ∧ s.flags.dit = s.flags.dah ∧ armEval s = { s with kstate := .idle }) := by
  unfold armEval
  split
  · split
    · exact .inl ⟨_, s.flags.wasdit, enterSend_eq_self _ _⟩
    · exact .inl ⟨_, !s.flags.wasdit, enterSend_eq _ _ _⟩
  · split
    · exact .inl ⟨.dit, true, enterSend_eq _ _ _⟩
    · split
      · exact .inl ⟨.dah, false, enterSend_eq _ _ _⟩
      · refine .inr ⟨by simp_all, ?_, rfl⟩
        cases h1 : s.flags.dit <;> cases h2 : s.flags.dah <;> simp_all

/-- Everything `Send` can do (R146). -/
theorem armSend_cases (s : State) :
    (s.ktimer.toNat < s.tick.toNat ∧
        armSend s = { s with tx := false, ktimer := deadline s.tick s.profile.tIeg, kstate := .ieg }) ∨
      (s.tick.toNat ≤ s.ktimer.toNat ∧ armSend s = s) := by
  unfold armSend
  split <;> simp_all

/-- Everything `IEG` can do (R147). -/
theorem armIeg_cases (s : State) :
    (s.ktimer.toNat < s.tick.toNat ∧ s.mode = .iambicB ∧ s.flags.sqz = true ∧
        armIeg s = elementStarted (symbolSaid (useSqueeze s.flags)) (useSqueeze s.flags) s) ∨
      (s.ktimer.toNat < s.tick.toNat ∧ ¬ (s.mode = .iambicB ∧ s.flags.sqz = true) ∧
        armIeg s = { s with ktimer := deadline s.tick s.profile.tLgapDec, kstate := .lgap }) ∨
      (s.tick.toNat ≤ s.ktimer.toNat ∧ armIeg s = s) := by
  unfold armIeg
  split
  · next h =>
    have h' := (deadlinePassed_iff _ _).mp h
    split
    · next hb => exact .inl ⟨h', hb.1, hb.2, enterSend_eq _ _ _⟩
    · next hb => exact .inr (.inl ⟨h', hb, rfl⟩)
  · next h => exact .inr (.inr ⟨by simpa using h, rfl⟩)

/-- Everything `LGap` can do (R148). -/
theorem armLgap_cases (p : Params) (x : Samples) (s : State) :
    (s.ktimer.toNat < s.tick.toNat ∧
        armLgap p x s = { s with
          trace := s.trace ++ resolveEvents p s.maddr s.record, maddr := sentinel, flags := Flags.clear
          ktimer := deadline s.tick s.profile.tWgapDec, kstate := .wgap }) ∨
      (s.tick.toNat ≤ s.ktimer.toNat ∧ armLgap p x s = readForEval x s) := by
  unfold armLgap
  split
  · next h => exact .inl ⟨(deadlinePassed_iff _ _).mp h, rfl⟩
  · next h => exact .inr ⟨by simpa using h, rfl⟩

/-- Everything `WGap` can do (R149). -/
theorem armWgap_cases (x : Samples) (s : State) :
    (s.ktimer.toNat < s.tick.toNat ∧
        armWgap x s = { s with
          trace := s.trace ++ [.word], maddr := sentinel, flags := Flags.clear, kstate := .idle }) ∨
      (s.tick.toNat ≤ s.ktimer.toNat ∧ armWgap x s = readForEval x s) := by
  unfold armWgap
  split
  · next h => exact .inl ⟨(deadlinePassed_iff _ _).mp h, rfl⟩
  · next h => exact .inr ⟨by simpa using h, rfl⟩

/-! ### POLL -/

theorem pollReady_iff (s : State) : pollReady s = true ↔ s.PollConfigured := by
  by_cases h : s.mode = .straight <;> simp [pollReady, State.PollConfigured, h, and_assoc]

theorem exec_pollOp (x : Samples) (s : State) : exec (pollOp x) s = pollWith Config.params x s := rfl

theorem exec_armOp (arm : Arm) (x : Samples) (s : State) :
    exec (armOp arm x) s = armWith Config.params arm x s := by
  cases arm <;> rfl

/-- A configured `POLL` answers the state of the selected arm. -/
theorem pollWith_next {p : Params} {x : Samples} {s : State} (h : s.PollConfigured) :
    pollWith p x s = .next (runArm p (selectArm s.mode s.kstate) x s) := by
  simp [pollWith, (pollReady_iff s).mpr h]

/-- A configured arm that the state selects answers its state. -/
theorem armWith_next {p : Params} {arm : Arm} {x : Samples} {s : State} (h : s.PollConfigured)
    (ha : selectArm s.mode s.kstate = arm) : armWith p arm x s = .next (runArm p arm x s) := by
  simp [armWith, (pollReady_iff s).mpr h, ha]

/-- Everything `POLL` can do. -/
theorem pollWith_cases (p : Params) (x : Samples) (s : State) :
    (s.PollConfigured ∧ pollWith p x s = .next (runArm p (selectArm s.mode s.kstate) x s)) ∨
      (¬ s.PollConfigured ∧ pollWith p x s = .refused .pollConfigUnwritten) := by
  by_cases h : s.PollConfigured
  · exact .inl ⟨h, pollWith_next h⟩
  · refine .inr ⟨h, ?_⟩
    have : ¬ pollReady s = true := fun hr => h ((pollReady_iff s).mp hr)
    simp [pollWith, this]

/-- Everything a POLLARM row can do. -/
theorem armWith_cases (p : Params) (arm : Arm) (x : Samples) (s : State) :
    (s.PollConfigured ∧ selectArm s.mode s.kstate = arm ∧ armWith p arm x s = .next (runArm p arm x s)) ∨
      (s.PollConfigured ∧ selectArm s.mode s.kstate ≠ arm ∧ armWith p arm x s = .refused .armNotSelected) ∨
      (¬ s.PollConfigured ∧ armWith p arm x s = .refused .pollConfigUnwritten) := by
  by_cases h : s.PollConfigured
  · by_cases ha : selectArm s.mode s.kstate = arm
    · exact .inl ⟨h, ha, armWith_next h ha⟩
    · exact .inr (.inl ⟨h, ha, by simp [armWith, (pollReady_iff s).mpr h, ha]⟩)
  · have : ¬ pollReady s = true := fun hr => h ((pollReady_iff s).mp hr)
    exact .inr (.inr ⟨h, by simp [armWith, this]⟩)

/-- Outside Straight mode the sequencer state alone selects the arm. -/
theorem selectArm_sequenced {m : Mode} (h : m ≠ .straight) (k : KState) :
    selectArm m k = match k with
      | .idle => .idle | .eval => .eval | .send => .send | .ieg => .ieg | .lgap => .lgap | .wgap => .wgap := by
  cases m <;> cases k <;> first | rfl | exact absurd rfl h

/-- A configured `POLL` and the row of the arm the state selects answer the same next state. -/
theorem exec_pollOp_next {x : Samples} {s : State} (h : s.PollConfigured) :
    exec (pollOp x) s = .next (runArm Config.params (selectArm s.mode s.kstate) x s) ∧
      exec (armOp (selectArm s.mode s.kstate) x) s = .next (runArm Config.params (selectArm s.mode s.kstate) x s) :=
  ⟨(exec_pollOp x s).trans (pollWith_next h), (exec_armOp _ x s).trans (armWith_next h rfl)⟩

/-- In Straight mode a configured `POLL` is the straight arm. -/
theorem exec_straight {x : Samples} {s : State} (h : s.PollConfigured) (hm : s.mode = .straight) :
    exec (pollOp x) s = .next (armStraight x s) ∧ exec (armOp .straight x) s = .next (armStraight x s) := by
  have e := exec_pollOp_next (x := x) h
  have ha : selectArm s.mode s.kstate = .straight := by rw [hm]; rfl
  rwa [ha] at e

/-- A sequenced `POLL` in `Idle` is that arm. -/
theorem exec_idle {x : Samples} {s : State} (h : s.Sequenced) (hk : s.kstate = .idle) :
    exec (pollOp x) s = .next (armIdle x s) ∧ exec (armOp .idle x) s = .next (armIdle x s) := by
  have e := exec_pollOp_next (x := x) h.1
  have ha : selectArm s.mode s.kstate = .idle := by rw [selectArm_sequenced h.2, hk]
  rwa [ha] at e

/-- A sequenced `POLL` in `Eval` is that arm. -/
theorem exec_eval {x : Samples} {s : State} (h : s.Sequenced) (hk : s.kstate = .eval) :
    exec (pollOp x) s = .next (armEval s) ∧ exec (armOp .eval x) s = .next (armEval s) := by
  have e := exec_pollOp_next (x := x) h.1
  have ha : selectArm s.mode s.kstate = .eval := by rw [selectArm_sequenced h.2, hk]
  rwa [ha] at e

/-- A sequenced `POLL` in `Send` is that arm. -/
theorem exec_send {x : Samples} {s : State} (h : s.Sequenced) (hk : s.kstate = .send) :
    exec (pollOp x) s = .next (armSend s) ∧ exec (armOp .send x) s = .next (armSend s) := by
  have e := exec_pollOp_next (x := x) h.1
  have ha : selectArm s.mode s.kstate = .send := by rw [selectArm_sequenced h.2, hk]
  rwa [ha] at e

/-- A sequenced `POLL` in `Ieg` is that arm. -/
theorem exec_ieg {x : Samples} {s : State} (h : s.Sequenced) (hk : s.kstate = .ieg) :
    exec (pollOp x) s = .next (armIeg s) ∧ exec (armOp .ieg x) s = .next (armIeg s) := by
  have e := exec_pollOp_next (x := x) h.1
  have ha : selectArm s.mode s.kstate = .ieg := by rw [selectArm_sequenced h.2, hk]
  rwa [ha] at e

/-- A sequenced `POLL` in `Lgap` is that arm. -/
theorem exec_lgap {x : Samples} {s : State} (h : s.Sequenced) (hk : s.kstate = .lgap) :
    exec (pollOp x) s = .next (armLgap Config.params x s) ∧ exec (armOp .lgap x) s = .next (armLgap Config.params x s) := by
  have e := exec_pollOp_next (x := x) h.1
  have ha : selectArm s.mode s.kstate = .lgap := by rw [selectArm_sequenced h.2, hk]
  rwa [ha] at e

/-- A sequenced `POLL` in `Wgap` is that arm. -/
theorem exec_wgap {x : Samples} {s : State} (h : s.Sequenced) (hk : s.kstate = .wgap) :
    exec (pollOp x) s = .next (armWgap x s) ∧ exec (armOp .wgap x) s = .next (armWgap x s) := by
  have e := exec_pollOp_next (x := x) h.1
  have ha : selectArm s.mode s.kstate = .wgap := by rw [selectArm_sequenced h.2, hk]
  rwa [ha] at e

/-! ### AUDIOTICK -/

/-- Everything `AUDIOTICK` can do. -/
theorem audiotickWith_cases (p : Params) (s : State) :
    (s.tx = false ∧ audiotickWith p s = .next (audioOff p s)) ∨
      (s.tx = true ∧ s.toneW = true ∧ s.volW = true ∧ audiotickWith p s = .next (audioOn p s)) ∨
      (s.tx = true ∧ ¬ (s.toneW = true ∧ s.volW = true) ∧ audiotickWith p s = .refused .audioConfigUnwritten) := by
  cases h : s.tx <;> cases h1 : s.toneW <;> cases h2 : s.volW <;> simp [audiotickWith, h, h1, h2]

/-! ### Every instruction at once -/

/-- An arm changes only what the poll loop owns, and appends to the trace. -/
theorem runArm_frame (p : Params) (arm : Arm) (x : Samples) (s : State) :
    ∃ k f d b a tr, runArm p arm x s =
      { s with kstate := k, flags := f, ktimer := d, tx := b, maddr := a, trace := tr } := by
  cases arm <;> simp only [runArm]
  · exact ⟨_, _, _, _, _, _, rfl⟩
  · rcases armIdle_cases x s with ⟨_, h⟩ | ⟨_, h⟩ <;> exact ⟨_, _, _, _, _, _, h⟩
  · rcases armEval_cases s with ⟨_, _, h⟩ | ⟨_, _, h⟩ <;> exact ⟨_, _, _, _, _, _, h⟩
  · rcases armSend_cases s with ⟨_, h⟩ | ⟨_, h⟩ <;> exact ⟨_, _, _, _, _, _, h⟩
  · rcases armIeg_cases s with ⟨_, _, _, h⟩ | ⟨_, _, h⟩ | ⟨_, h⟩ <;> exact ⟨_, _, _, _, _, _, h⟩
  · rcases armLgap_cases p x s with ⟨_, h⟩ | ⟨_, h⟩
    · exact ⟨_, _, _, _, _, _, h⟩
    · rcases readForEval_cases x s with ⟨_, h'⟩ | ⟨_, h'⟩ <;> exact ⟨_, _, _, _, _, _, h.trans h'⟩
  · rcases armWgap_cases x s with ⟨_, h⟩ | ⟨_, h⟩
    · exact ⟨_, _, _, _, _, _, h⟩
    · rcases readForEval_cases x s with ⟨_, h'⟩ | ⟨_, h'⟩ <;> exact ⟨_, _, _, _, _, _, h.trans h'⟩

/-- Everything an instruction that goes on can do. -/
theorem exec_next_cases {i : Instr} {s t : State} (h : exec i s = .next t) :
    (agentOf i = .pollLoop ∧ s.PollConfigured ∧ ∃ x, t = runArm Config.params (selectArm s.mode s.kstate) x s) ∨
      (i = .mstick ∧ t = { s with tick := wrap32 (s.tick.toNat + 1) }) ∨
      (i = .audiotick ∧ s.tx = false ∧ t = audioOff Config.params s) ∨
      (i = .audiotick ∧ s.tx = true ∧ s.toneW = true ∧ s.volW = true ∧ t = audioOn Config.params s) ∨
      (∃ n, i = .setwpm n ∧ (10 ≤ n.toNat ∧ n.toNat ≤ 60) ∧
        t = { s with wpm := n, profile := profileOf n.toNat, wpmW := true, profValid := true }) ∨
      (∃ m, i = .setmode m ∧ t = { s with mode := m, modeW := true }) ∨
      (∃ b, i = .setswap b ∧ t = { s with swap := b, swapW := true }) ∨
      (∃ b, i = .settone b ∧ t = { s with tone := b, toneW := true }) ∨
      (∃ v, i = .setvol v ∧ v.toNat ≤ Config.params.volMax ∧ t = { s with vol := v, volW := true }) ∨
      (∃ b, i = .setrec b ∧ t = { s with record := b, recW := true }) ∨
      (i = .reset ∧ t = resetWith Config.params (Config.leftByReset s.freeCtr) s) := by
  have arm : ∀ (a : Arm) (x : Samples), armWith Config.params a x s = .next t →
      s.PollConfigured ∧ ∃ y, t = runArm Config.params (selectArm s.mode s.kstate) y s := by
    intro a x ha
    rcases armWith_cases Config.params a x s with ⟨hc, hs, e⟩ | ⟨_, _, e⟩ | ⟨_, e⟩ <;> rw [e] at ha
    · exact ⟨hc, x, by rw [hs]; exact (Host.Outcome.next.inj ha).symm⟩
    all_goals cases ha
  cases i <;> simp only [exec] at h
  case poll a1 a2 b1 b2 =>
    rcases pollWith_cases Config.params ⟨a1, a2, b1, b2⟩ s with ⟨hc, e⟩ | ⟨_, e⟩ <;>
      rw [execPoll, e] at h <;> cases h
    exact .inl ⟨rfl, hc, _, rfl⟩
  case mstick => cases h; simp
  case audiotick =>
    rcases audiotickWith_cases Config.params s with ⟨h0, e⟩ | ⟨h0, h1, h2, e⟩ | ⟨_, _, e⟩ <;>
      rw [execAudiotick, e] at h <;> cases h <;> simp_all
  case setwpm n =>
    rcases execSetwpm_cases n s with ⟨h1, h2, e⟩ | ⟨_, e⟩ <;> rw [e] at h <;> cases h
    simp [h1, h2]
  case setmode m => cases h; simp
  case setswap b => cases h; simp
  case settone b => cases h; simp
  case setvol v =>
    rcases setvolWith_cases Config.params v s with ⟨hv, e⟩ | ⟨_, e⟩ <;> rw [execSetvol, e] at h <;> cases h
    simp [hv]
  case setrec b => cases h; simp
  case reset => cases h; simp
  case pollStraight a1 a2 b1 b2 => exact .inl ⟨rfl, arm _ _ h⟩
  case pollIdle a1 a2 b1 b2 => exact .inl ⟨rfl, arm _ _ h⟩
  case pollEval a1 a2 b1 b2 => exact .inl ⟨rfl, arm _ _ h⟩
  case pollSend a1 a2 b1 b2 => exact .inl ⟨rfl, arm _ _ h⟩
  case pollIeg a1 a2 b1 b2 => exact .inl ⟨rfl, arm _ _ h⟩
  case pollLgap a1 a2 b1 b2 => exact .inl ⟨rfl, arm _ _ h⟩
  case pollWgap a1 a2 b1 b2 => exact .inl ⟨rfl, arm _ _ h⟩

/-! ### Step -/

/-- Everything a step can do. -/
theorem step_cases (s : State) :
    (s.schedule = [] ∧ step s = .next s) ∨
      (∃ w rest, s.schedule = w :: rest ∧ decode w = none ∧ step s = .refused (.illegalWord w)) ∨
      (∃ w rest i, s.schedule = w :: rest ∧ decode w = some i ∧ step s = exec i { s with schedule := rest }) := by
  unfold step fetch
  cases hs : s.schedule with
  | nil => simp
  | cons w rest => cases hd : decode w <;> simp [hd]

end Sys2Proof.Machine
end

