-- ==== Sys2Proof/Laws/PerInstr.lean ====
section
/-! SUPPORT. Laws made per instruction: the word of every instruction has the fixed bits of its row (30_encoding.md R81). -/

namespace Sys2Proof.Laws.RowWord

/-- The word of `i`, under the mask of its row, is the row's match value (30_encoding.md R81; R89 for the arms). -/
def Statement (i : Instr) : Prop := encode i &&& rowMask i = rowMatch i

theorem poll (a1 a2 b1 b2 : Bool) : Statement (.poll a1 a2 b1 b2) := by
  revert a1 a2 b1 b2; unfold Statement; decide

theorem pollStraight (a1 a2 b1 b2 : Bool) : Statement (.pollStraight a1 a2 b1 b2) := by
  revert a1 a2 b1 b2; unfold Statement; decide

theorem pollIdle (a1 a2 b1 b2 : Bool) : Statement (.pollIdle a1 a2 b1 b2) := by
  revert a1 a2 b1 b2; unfold Statement; decide

theorem pollEval (a1 a2 b1 b2 : Bool) : Statement (.pollEval a1 a2 b1 b2) := by
  revert a1 a2 b1 b2; unfold Statement; decide

theorem pollSend (a1 a2 b1 b2 : Bool) : Statement (.pollSend a1 a2 b1 b2) := by
  revert a1 a2 b1 b2; unfold Statement; decide

theorem pollIeg (a1 a2 b1 b2 : Bool) : Statement (.pollIeg a1 a2 b1 b2) := by
  revert a1 a2 b1 b2; unfold Statement; decide

theorem pollLgap (a1 a2 b1 b2 : Bool) : Statement (.pollLgap a1 a2 b1 b2) := by
  revert a1 a2 b1 b2; unfold Statement; decide

theorem pollWgap (a1 a2 b1 b2 : Bool) : Statement (.pollWgap a1 a2 b1 b2) := by
  revert a1 a2 b1 b2; unfold Statement; decide

theorem mstick : Statement .mstick := by
  unfold Statement; decide

theorem audiotick : Statement .audiotick := by
  unfold Statement; decide

theorem reset : Statement .reset := by
  unfold Statement; decide

theorem setwpm (n : Byte) : Statement (.setwpm n) := by
  revert n; unfold Statement; decide

theorem setvol (n : Byte) : Statement (.setvol n) := by
  revert n; unfold Statement; decide

theorem setswap (b : Bool) : Statement (.setswap b) := by
  revert b; unfold Statement; decide

theorem settone (b : Bool) : Statement (.settone b) := by
  revert b; unfold Statement; decide

theorem setrec (b : Bool) : Statement (.setrec b) := by
  revert b; unfold Statement; decide

theorem setmode (m : Mode) : Statement (.setmode m) := by
  cases m <;> (unfold Statement; decide)

end Sys2Proof.Laws.RowWord
end

