-- ==== Sys2Proof/Tests/Slice0.lean ====
section
/-! SUPPORT. The model's own tests: the spec's words and vectors (95_test_vectors.md) and, for every statement with
hypotheses, a state and operands that meet them all. -/

namespace Sys2Proof.Tests

open Sys2Proof.Machine

/-! ## Well-formedness: a term for each check, refused -/

theorem test_arm_straight_is_no_operation : ¬ (Instr.pollStraight true true false false).WellFormed := by decide
theorem test_arm_idle_is_no_operation : ¬ (Instr.pollIdle true true false false).WellFormed := by decide
theorem test_arm_eval_is_no_operation : ¬ (Instr.pollEval true true false false).WellFormed := by decide
theorem test_arm_send_is_no_operation : ¬ (Instr.pollSend true true false false).WellFormed := by decide
theorem test_arm_ieg_is_no_operation : ¬ (Instr.pollIeg true true false false).WellFormed := by decide
theorem test_arm_lgap_is_no_operation : ¬ (Instr.pollLgap true true false false).WellFormed := by decide
theorem test_arm_wgap_is_no_operation : ¬ (Instr.pollWgap true true false false).WellFormed := by decide

/-! ## Decoding: words written out from 30_encoding.md R81, R97 and 95_test_vectors.md V-E1 to V-E12 -/

theorem test_decode_poll_d : decode 0x1003 = some (.poll true true false false) := by decide
theorem test_decode_poll_glitch_a : decode 0x100D = some (.poll true false true true) := by decide
theorem test_decode_poll_written_out :
    decode 0x100F = some (.poll true true true true) ∧ decode 0x1001 = some (.poll true false false false) := by decide
theorem test_decode_mstick : decode 0x2000 = some .mstick := by decide
theorem test_decode_audiotick : decode 0x3000 = some .audiotick := by decide
theorem test_decode_setwpm : decode 0x4019 = some (.setwpm 25) := by decide
theorem test_decode_setwpm_out_of_range : decode 0x403D = some (.setwpm 61) := by decide
theorem test_decode_setmode : decode 0x5003 = some (.setmode .ultimatic) := by decide
theorem test_decode_setswap : decode 0x6001 = some (.setswap true) := by decide
theorem test_decode_settone : decode 0x7000 = some (.settone false) := by decide
theorem test_decode_setvol : decode 0x8004 = some (.setvol 4) := by decide
theorem test_decode_setrec : decode 0x9001 = some (.setrec true) := by decide
theorem test_decode_reset : decode 0xF000 = some .reset := by decide
theorem test_decode_refuses_must_be_zero :
    [0x1010, 0x2001, 0x3800, 0x4119, 0x5004, 0x6002, 0x7002, 0x8100, 0x9002, 0xF001].all
      (fun w => (decode w).isNone) = true := by decide
theorem test_decode_refuses_reserved : [0x0000, 0xA000, 0xB000, 0xC000, 0xD000, 0xE123].all
    (fun w => (decode w).isNone) = true := by decide
theorem test_table_word : decodeTableWord 16 0x100C = some (.poll false false true true) := by decide
/-- R97: the line forms of the examples. -/
theorem test_line_text : lineText (.poll true false true true) = "POLL 1 0 1 1" ∧
    lineText (.setmode .iambicB) = "SETMODE IAMBICB" := by decide
/-- R98: `RUN 2, POLL.D` is the word pair (0x2000, 0x1003) twice. -/
theorem test_run_words : words (runPolls 2 pollD) = [0x2000, 0x1003, 0x2000, 0x1003] := by decide

/-! ## The vectors of 95_test_vectors.md, one step each. `minimal` is its decode table and the illustrative binding
`ILL`; `wpm25` its configuration. -/

/-- The illustrative parameters of the vectors: a test binding, no claim about the hardware. -/
def ill : Params where
  addrBreak := 197
  addrSk := 69
  oscShift := 6
  delta0 := 16
  delta1 := 24
  cosInit := 100
  volMax := 4

/-- All configuration written, wpm 25, in `mode`; key up, pair at rest. -/
def wpm25 (mode : Mode) : State :=
  { State.reset with
    cosv := 100, mode := mode, wpm := 25, profile := ⟨48, 144, 48, 120, 144, 144, 336⟩, profValid := true
    wpmW := true, modeW := true, swapW := true, toneW := true, volW := true, recW := true }

/-- A row of the keyer vectors: the "before" columns. -/
def before (mode : Mode) (k : KState) (flags : BitVec 4) (maddr : Byte) (tx : Bool) (ktimer tick : Tick) : State :=
  { wpm25 mode with kstate := k, flags := Flags.ofBits flags, maddr := maddr, tx := tx, ktimer := ktimer, tick := tick }

/-- The "after" columns of a keyer vector. -/
structure Row where
  kstate : KState
  flags : BitVec 4
  maddr : Byte
  tx : Bool
  ktimer : Tick
  events : List Event
  deriving DecidableEq, Repr

/-- The "after" columns of an outcome; `none` if it is refused. -/
def after (r : Host.Outcome State Fault Refusal) : Option Row :=
  match r with
  | .next t => some ⟨t.kstate, t.flags.bits, t.maddr, t.tx, t.ktimer, t.trace⟩
  | _ => none

def noKey : Samples := ⟨false, false, false, false⟩
def keyA : Samples := ⟨true, true, false, false⟩
def keyB : Samples := ⟨false, false, true, true⟩
def keyAB : Samples := ⟨true, true, true, true⟩

theorem test_vk1_idle_clears : after (pollWith ill noKey (before .iambicA .idle 4 7 false 0 500)) =
    some ⟨.idle, 0, 1, false, 0, []⟩ := by decide
theorem test_vk3_idle_glitch_dropped : after (pollWith ill ⟨true, false, true, true⟩ (before .iambicA .idle 0 1 false 0 500)) =
    some ⟨.eval, 2, 1, false, 0, [.activity]⟩ := by decide
theorem test_vk5_eval_dah_ignores_samples : after (pollWith ill keyAB (before .iambicA .eval 2 2 false 77 500)) =
    some ⟨.send, 2, 5, true, 644, []⟩ := by decide
theorem test_vk6b_eval_squeeze_after_dit : after (pollWith ill noKey (before .iambicA .eval 0xF 2 false 0 500)) =
    some ⟨.send, 0xB, 5, true, 644, []⟩ := by decide
theorem test_vk7a_ultimatic_after_dit : after (pollWith ill noKey (before .ultimatic .eval 0xF 2 false 0 500)) =
    some ⟨.send, 0xF, 5, true, 644, []⟩ := by decide
theorem test_vk8_eval_no_key : after (pollWith ill keyAB (before .iambicB .eval 0 1 false 0 500)) =
    some ⟨.idle, 0, 1, false, 0, []⟩ := by decide
theorem test_vk9_send_at_deadline : after (pollWith ill keyAB (before .iambicA .send 5 2 true 548 548)) =
    some ⟨.send, 5, 2, true, 548, []⟩ := by decide
theorem test_vk10_send_ends : after (pollWith ill keyAB (before .iambicA .send 5 2 true 548 549)) =
    some ⟨.ieg, 5, 2, false, 597, []⟩ := by decide
theorem test_vk12_memory_dah : after (pollWith ill noKey (before .iambicB .ieg 0xF 2 false 597 598)) =
    some ⟨.send, 3, 5, true, 742, []⟩ := by decide
theorem test_vk15_ultimatic_no_memory : after (pollWith ill noKey (before .ultimatic .ieg 0xF 2 false 597 598)) =
    some ⟨.lgap, 0xF, 2, false, 718, []⟩ := by decide
theorem test_vk17_lgap_press_joins : after (pollWith ill keyB (before .iambicA .lgap 5 2 false 718 718)) =
    some ⟨.eval, 6, 2, false, 718, [.activity]⟩ := by decide
theorem test_vk18_lgap_flush : after (pollWith ill keyB (before .iambicA .lgap 5 2 false 718 719)) =
    some ⟨.wgap, 0, 1, false, 863, [.char 0x45]⟩ := by decide
theorem test_vk20_wgap_press : after (pollWith ill keyA (before .iambicA .wgap 0 1 false 863 863)) =
    some ⟨.eval, 1, 1, false, 863, [.activity]⟩ := by decide
theorem test_vk21_wgap_word : after (pollWith ill keyA (before .iambicA .wgap 0 1 false 863 864)) =
    some ⟨.idle, 0, 1, false, 863, [.word]⟩ := by decide
theorem test_vk22_straight_keys : after (pollWith ill keyA (before .straight .send 4 5 false 548 600)) =
    some ⟨.send, 5, 5, true, 548, [.activity]⟩ := by decide
theorem test_vk23_straight_glitch : after (pollWith ill ⟨true, false, false, false⟩ (before .straight .idle 1 1 true 0 600)) =
    some ⟨.idle, 0, 1, false, 0, []⟩ := by decide
/-- V-R3: with `swap` = 1 line A is the dah paddle. -/
theorem test_vr3_swap : (paddleRead keyA { wpm25 .iambicA with swap := true }).flags.bits = 2 := by decide
/-- V-R10: the tick wraps. -/
theorem test_vr10_tick_wraps : (match execMstick { wpm25 .iambicA with tick := 0xFFFFFFFF } with
    | .next t => t.tick | _ => 1) = 0 := by decide
/-- V-T3: at wpm 14 the dah is three truncated dits. -/
theorem test_vt3_profile : profileOf 14 = ⟨85, 255, 85, 214, 255, 255, 595⟩ := by decide
/-- V-T5: at wpm 37 the decode letter gap truncates once. -/
theorem test_vt5_profile : profileOf 37 = ⟨32, 96, 32, 81, 96, 96, 224⟩ := by decide
/-- V-T7 and V-E6: 60 is legal, 61 and 9 are not. -/
theorem test_vt7_range : wpmLegal 60 = true ∧ wpmLegal 61 = false ∧ wpmLegal 9 = false := by decide
/-- V-T11: `SETVOL 5` with `VOL_MAX` = 4. -/
theorem test_vt11_volume : volTooBig ill 5 = true ∧ volTooBig ill 4 = false := by decide
/-- V-M5, V-M5b, V-M5c. -/
theorem test_vm5_push : pushSymbol 128 .dit = 0 ∧ pushSymbol 128 .dah = 1 ∧ pushSymbol 255 .dah = 255 := by decide
/-- V-M6 to V-M12. -/
theorem test_vm_resolve : resolveEvents ill 128 false = [.char 0x2A] ∧ resolveEvents ill 0 true = [.clrline] ∧
    resolveEvents ill 5 true = [.char 0x41, .record 0x41] ∧ resolveEvents ill 6 true = [.char 0x2A, .record 0x2A] ∧
    resolveEvents ill 197 true = [] ∧ resolveEvents ill 69 false = [] ∧ resolveEvents ill 1 false = [.char 0x2A] := by
  decide

/-- `sinv`, `cosv`, `pwm` after an `AUDIOTICK`, as a vector's row gives them. -/
def sound (r : Host.Outcome State Fault Refusal) : Option (Int × Int × Nat) :=
  match r with
  | .next t => some (t.sinv.toInt, t.cosv.toInt, t.pwm.toNat)
  | _ => none

/-- The "before" columns of an oscillator vector. -/
def ringing (sinv cosv : Int) (tx tone : Bool) (vol : Byte) : State :=
  { wpm25 .straight with sinv := BitVec.ofInt 8 sinv, cosv := BitVec.ofInt 8 cosv, tx := tx, tone := tone, vol := vol }

theorem test_vo2_advance : sound (audiotickWith ill (ringing 25 94 true false 4)) = some (48, 82, 176) := by decide
theorem test_vo3_floor_shift : sound (audiotickWith ill (ringing 100 (-4) true false 4)) = some (99, -28, 227) := by decide
theorem test_vo4_off : sound (audiotickWith ill (ringing 95 21 false false 4)) = some (0, 100, 128) := by decide
theorem test_vo5_tone1_volume : sound (audiotickWith ill (ringing 0 100 true true 2)) = some (37, 87, 137) := by decide
theorem test_vo8_refused : sound (audiotickWith ill { ringing 0 100 true false 4 with toneW := false }) = none := by decide
/-- V-S1: `RESET` while sending. -/
theorem test_vs1_reset : after (.next (resetWith ill default (before .iambicA .send 5 5 true 548 500))) =
    some ⟨.idle, 0, 1, false, (default : LeftByReset).ktimer, []⟩ := by decide
/-- V-S3, V-S4: Straight needs no profile and no `rec`; the other modes do. -/
theorem test_vs3_vs4_ready : pollReady { wpm25 .straight with profValid := false, recW := false } = true ∧
    pollReady { wpm25 .iambicA with profValid := false } = false := by decide

/-- The word `SETMODE IAMBICA` is the first instruction after reset that a step runs. -/
theorem test_fetch_word : (match step (State.reset.withFetchWord 16 0x5001) with
    | .next t => (t.mode, t.modeW, t.schedule) | _ => (.straight, false, [])) = (.iambicA, true, []) := by decide

/-! ## Witnesses: for every statement with hypotheses, a state and operands that meet them -/

/-- A configured, sequenced state in each sequencer state, before and after its deadline. -/
theorem witness_sequenced (m : Mode) (hm : m ≠ .straight) (k : KState) (f : BitVec 4) (d n : Tick) :
    (before m k f 2 false d n).Sequenced ∧ (before m k f 2 false d n).kstate = k := ⟨⟨⟨rfl, rfl, fun _ => ⟨rfl, rfl⟩⟩, hm⟩, rfl⟩

theorem witness_round_trip : (Instr.setwpm 255).WellFormed := by decide
theorem witness_decoded : decode 0x80FF = some (.setvol 255) := by decide
theorem witness_illegal_word : IllegalOpWord 0x1010 ∧ IllegalOpWord 0xE000 ∧ decode 0x1010 = none ∧
    ({ wpm25 .iambicA with schedule := [0x1010] } : State).schedule = 0x1010 :: [] :=
  ⟨.inr ⟨4, by decide, by decide, by decide⟩, .inl (by decide), by decide, rfl⟩
theorem witness_wpm_bounds : (9 : Byte).toNat < 10 ∧ 60 < (61 : Byte).toNat ∧ 10 ≤ (10 : Byte).toNat ∧
    (60 : Byte).toNat ≤ 60 := by decide
/-- `VOL_MAX` is open, so the clauses on volumes at and above it are met in every model whose `VOL_MAX` is below 255. -/
theorem witness_vol_low : (0 : Byte).toNat ≤ Config.params.volMax := Nat.zero_le _
theorem witness_vol_shift (p : Params) (h : p.volMax = 4) : (4 : Byte).toNat = p.volMax ∧ p.volMax < (5 : Byte).toNat := by
  rw [h]; decide
theorem witness_ill_volume : ill.volMax = 4 ∧ 7 ≤ volShift { ill with volMax := 9 } 2 := by decide
theorem witness_step_operation : ({ wpm25 .iambicA with schedule := [0x2000, 0x1000] } : State).schedule =
    0x2000 :: [0x1000] ∧ decode 0x2000 = some .mstick := ⟨rfl, by decide⟩
theorem witness_step_quiet : State.reset.schedule = [] := rfl
theorem witness_fetch_word : decodeTableWord 16 0xF000 = some .reset := by decide
theorem witness_exec_next (s : State) : exec .mstick s = .next { s with tick := wrap32 (s.tick.toNat + 1) } := rfl
theorem witness_host_operation (s : State) : agentOf (.setmode .iambicA) = .host ∧ Instr.setmode .iambicA ≠ .reset ∧
    exec (.setmode .iambicA) s = .next { s with mode := .iambicA, modeW := true } := ⟨rfl, by decide, rfl⟩
theorem witness_inv : (wpm25 .iambicA).profValid = true ∧ (wpm25 .iambicA).Inv :=
  ⟨rfl, { squeeze := by decide, wordGap := by decide, validProfile := rfl, speed := by decide,
          volume := fun _ => Nat.zero_le _ }⟩
theorem witness_setwpm_while_sending : (before .iambicA .send 5 2 true 548 549).Sequenced ∧
    (before .iambicA .send 5 2 true 548 549).kstate = .send ∧
    (before .iambicA .send 5 2 true 548 549).ktimer.toNat < (before .iambicA .send 5 2 true 548 549).tick.toNat ∧
    (before .iambicA .send 5 2 true 548 548).tick.toNat ≤ (before .iambicA .send 5 2 true 548 548).ktimer.toNat ∧
    ∃ t, exec (.setwpm 20) (before .iambicA .send 5 2 true 548 549) = .next t := by
  refine ⟨by decide, rfl, by decide, by decide, _, rfl⟩
theorem witness_pressed : keyA.Pressed ∧ keyB.Pressed ∧ ¬ noKey.Pressed ∧ ¬ (⟨true, false, false, true⟩ : Samples).Pressed := by
  decide
theorem witness_reader_latched : (before .iambicB .ieg 0xF 2 false 597 598).mode ≠ .straight ∧
    (before .iambicB .ieg 0xF 2 false 597 598).kstate = .ieg ∧
    (before .iambicB .lgap 5 2 false 718 719).ktimer.toNat < (before .iambicB .lgap 5 2 false 718 719).tick.toNat ∧
    ∃ t, exec (pollOp keyA) (before .iambicB .ieg 0xF 2 false 597 598) = .next t := ⟨by decide, rfl, by decide, _, rfl⟩
theorem witness_reader_runs : (before .iambicA .lgap 5 2 false 718 718).tick.toNat ≤
    (before .iambicA .lgap 5 2 false 718 718).ktimer.toNat ∧ ∃ t, exec (pollOp keyB) (before .iambicA .lgap 5 2 false 718 718) = .next t :=
  ⟨by decide, _, rfl⟩
theorem witness_reader_runs_idle : (before .iambicA .idle 0 1 false 0 500).ReaderRuns ∧ (wpm25 .straight).ReaderRuns ∧
    (before .iambicA .wgap 0 1 false 863 863).ReaderRuns ∧ ¬ (before .iambicA .wgap 0 1 false 863 864).ReaderRuns := by decide
theorem witness_straight : (wpm25 .straight).PollConfigured ∧ (wpm25 .straight).mode = .straight := by decide
theorem witness_unselected_arm : (wpm25 .straight).PollConfigured ∧
    Arm.idle ≠ selectArm (wpm25 .straight).mode (wpm25 .straight).kstate := by decide
theorem witness_unconfigured : ¬ State.reset.PollConfigured := by decide
theorem witness_audio_unwritten : (({ State.reset with tx := true } : State).tx = true) ∧
    ¬ (({ State.reset with tx := true } : State).toneW = true ∧ ({ State.reset with tx := true } : State).volW = true) := by
  decide
theorem witness_eval_branches :
    ((before .ultimatic .eval 0xF 2 false 0 500).flags.sqz = true ∧ (before .ultimatic .eval 0xF 2 false 0 500).mode = .ultimatic) ∧
    ((before .iambicA .eval 0xB 1 false 0 500).flags.sqz = true ∧ (before .iambicA .eval 0xB 1 false 0 500).flags.wasdit = false) ∧
    ((before .iambicA .eval 0xF 2 false 0 500).flags.sqz = true ∧ (before .iambicA .eval 0xF 2 false 0 500).flags.wasdit = true) ∧
    ((before .iambicA .eval 1 1 false 0 500).flags.sqz = false ∧ (before .iambicA .eval 1 1 false 0 500).flags.dit = true ∧
      (before .iambicA .eval 1 1 false 0 500).flags.dah = false) ∧
    ((before .iambicA .eval 2 1 false 0 500).flags.dit = false ∧ (before .iambicA .eval 2 1 false 0 500).flags.dah = true) ∧
    ((before .iambicA .eval 0 1 false 0 500).flags.sqz = false ∧
      (before .iambicA .eval 0 1 false 0 500).flags.dit = (before .iambicA .eval 0 1 false 0 500).flags.dah) := by decide
theorem witness_idle_arm : (wpm25 .iambicA).Sequenced ∧ (wpm25 .iambicA).kstate = .idle ∧ keyA.Pressed ∧ ¬ noKey.Pressed := by
  decide
theorem witness_eval_arm : (before .iambicA .eval 1 1 false 0 500).Sequenced ∧ (before .iambicA .eval 1 1 false 0 500).kstate = .eval := by
  decide
/-- `Send` at its deadline and one tick after it. -/
theorem witness_send_arm : ((before .iambicA .send 5 2 true 548 548).Sequenced ∧ (before .iambicA .send 5 2 true 548 548).kstate = .send ∧
      (before .iambicA .send 5 2 true 548 548).tick.toNat ≤ (before .iambicA .send 5 2 true 548 548).ktimer.toNat) ∧
    (before .iambicA .send 5 2 true 548 549).Sequenced ∧ (before .iambicA .send 5 2 true 548 549).kstate = .send ∧
    (before .iambicA .send 5 2 true 548 549).ktimer.toNat < (before .iambicA .send 5 2 true 548 549).tick.toNat := by decide
/-- The gaps at their deadline and one tick after it. -/
theorem witness_gap_arms : ((before .iambicA .lgap 5 2 false 718 718).Sequenced ∧ (before .iambicA .lgap 5 2 false 718 718).kstate = .lgap ∧
      (before .iambicA .lgap 5 2 false 718 718).tick.toNat ≤ (before .iambicA .lgap 5 2 false 718 718).ktimer.toNat ∧ keyB.Pressed) ∧
    ((before .iambicA .lgap 5 2 false 718 719).Sequenced ∧
      (before .iambicA .lgap 5 2 false 718 719).ktimer.toNat < (before .iambicA .lgap 5 2 false 718 719).tick.toNat) ∧
    ((before .iambicA .wgap 0 1 false 863 863).Sequenced ∧ (before .iambicA .wgap 0 1 false 863 863).kstate = .wgap ∧
      (before .iambicA .wgap 0 1 false 863 863).tick.toNat ≤ (before .iambicA .wgap 0 1 false 863 863).ktimer.toNat) ∧
    (before .iambicA .wgap 0 1 false 863 864).Sequenced ∧
    (before .iambicA .wgap 0 1 false 863 864).ktimer.toNat < (before .iambicA .wgap 0 1 false 863 864).tick.toNat := by decide
/-- Two states and flags as in `UltimaticNeverAlternates`. -/
theorem witness_ultimatic : (before .ultimatic .eval 0xF 2 false 0 500).Sequenced ∧ (before .ultimatic .eval 0xF 5 false 0 700).Sequenced ∧
    (before .ultimatic .eval 0xF 2 false 0 500).mode = .ultimatic ∧ (before .ultimatic .eval 0xF 2 false 0 500).flags.sqz = true ∧
    (before .ultimatic .eval 0xF 5 false 0 700).flags = (before .ultimatic .eval 0xF 2 false 0 500).flags := by decide
theorem witness_memory_branches :
    ((before .iambicB .ieg 0xB 3 false 597 598).Sequenced ∧ (before .iambicB .ieg 0xB 3 false 597 598).mode = .iambicB ∧
      (before .iambicB .ieg 0xB 3 false 597 598).flags.sqz = true ∧ (before .iambicB .ieg 0xB 3 false 597 598).flags.wasdit = false ∧
      (before .iambicB .ieg 0xB 3 false 597 598).ktimer.toNat < (before .iambicB .ieg 0xB 3 false 597 598).tick.toNat) ∧
    (before .iambicB .ieg 0xF 2 false 597 598).flags.wasdit = true ∧
    (before .iambicA .ieg 0xF 2 false 597 598).mode ≠ .iambicB ∧
    (before .iambicB .ieg 0xF 2 false 597 597).tick.toNat ≤ (before .iambicB .ieg 0xF 2 false 597 597).ktimer.toNat := by decide
/-- After the memory element the flags are those of `u` in `IambicMemorySendsExactlyOneElement`. -/
theorem witness_memory_used : (before .iambicB .ieg 3 5 false 1293 1294).Sequenced ∧
    (before .iambicB .ieg 3 5 false 1293 1294).flags = useSqueeze (before .iambicB .ieg 0xF 2 false 597 598).flags ∧
    (before .iambicB .ieg 3 5 false 1293 1294).ktimer.toNat < (before .iambicB .ieg 3 5 false 1293 1294).tick.toNat := by decide
theorem witness_sequencer_moves : ∃ t, exec (pollOp noKey) (before .iambicA .send 5 2 true 548 549) = .next t ∧
    t.kstate ≠ (before .iambicA .send 5 2 true 548 549).kstate := ⟨_, rfl, by decide⟩
theorem witness_boundary : ∃ t, exec (pollOp noKey) (before .iambicA .wgap 0 1 false 863 864) = .next t ∧
    t.kstate = .idle ∧ t.kstate ≠ (before .iambicA .wgap 0 1 false 863 864).kstate := ⟨_, rfl, by decide, by decide⟩
theorem witness_quiet_poll : (before .iambicB .send 0xF 2 true 548 549).Sequenced ∧ ¬ noKey.Pressed ∧
    (before .iambicB .send 0xF 2 true 548 549).kstate ≠ .idle ∧ (before .iambicB .send 0xF 2 true 548 549).KeyedOnlyInSend ∧
    (before .iambicB .send 0xF 2 true 548 549).ktimer.toNat < (before .iambicB .send 0xF 2 true 548 549).tick.toNat := by decide
theorem witness_key_down : (before .iambicA .send 5 2 true 548 500).Sequenced ∧
    (before .iambicA .send 5 2 true 548 500).kstate = .send ∧ (before .iambicA .send 5 2 true 548 500).tx = true ∧
    (before .iambicA .send 5 2 true 548 500).ktimer.toNat = (before .iambicA .send 5 2 true 548 500).tick.toNat + 48 ∧
    (before .iambicA .send 5 2 true 548 500).tick.toNat + 48 + 1 < 4294967296 := by decide
/-- A run with host operations in it, an element and a gap. -/
theorem witness_all_ones :
    (∀ i ∈ [Instr.setwpm 20, .setmode .iambicB, .mstick], i ≠ .reset ∧ i ≠ .setmode .straight) ∧
    (before .iambicA .send 5 2 true 0xFFFFFFFF 9).mode ≠ .straight ∧ (before .iambicA .send 5 2 true 0xFFFFFFFF 9).kstate = .send ∧
    (before .iambicA .ieg 5 2 false 0xFFFFFFFF 9).kstate = .ieg ∧ (before .iambicA .send 5 2 true 0xFFFFFFFF 9).ktimer = 0xFFFFFFFF ∧
    ∃ t, execAll [.setwpm 20, .setmode .iambicB, .mstick] (before .iambicA .send 5 2 true 0xFFFFFFFF 9) = .next t :=
  ⟨by decide, by decide, rfl, rfl, rfl, _, rfl⟩
/-- A dit at the tick of R240 (b): its own deadline wraps. -/
theorem witness_wrapped_dit : ∃ t, exec (pollOp noKey) (before .iambicA .eval 1 1 false 0 0xFFFFFFE1) = .next t ∧
    t.kstate = .send ∧ t.maddr.getLsbD 0 = false ∧ (before .iambicA .eval 1 1 false 0 0xFFFFFFE1).kstate ≠ .send ∧
    4294967296 ≤ (before .iambicA .eval 1 1 false 0 0xFFFFFFE1).tick.toNat +
      (before .iambicA .eval 1 1 false 0 0xFFFFFFE1).profile.tDit.toNat := ⟨_, rfl, rfl, by decide, by decide, by decide⟩
/-- A dah of the Iambic-B memory whose deadline wraps where a dit's would not. -/
theorem witness_wrapped_dah : ∃ t, exec (pollOp noKey) (before .iambicB .ieg 0xF 2 false 9 0xFFFFFF90) = .next t ∧
    t.kstate = .send ∧ t.maddr.getLsbD 0 = true ∧ (before .iambicB .ieg 0xF 2 false 9 0xFFFFFF90).kstate ≠ .send ∧
    (before .iambicB .ieg 0xF 2 false 9 0xFFFFFF90).tick.toNat +
      (before .iambicB .ieg 0xF 2 false 9 0xFFFFFF90).profile.tDit.toNat < 4294967296 ∧
    4294967296 ≤ (before .iambicB .ieg 0xF 2 false 9 0xFFFFFF90).tick.toNat +
      (before .iambicB .ieg 0xF 2 false 9 0xFFFFFF90).profile.tDah.toNat :=
  ⟨_, rfl, rfl, by decide, by decide, by decide, by decide⟩
/-- Each of the three gaps of R240 (b), entered at a tick from which its deadline wraps. -/
theorem witness_wrapped_gaps :
    (∃ t, exec (pollOp noKey) (before .iambicA .send 5 2 true 0x11 0xFFFFFFE2) = .next t ∧ t.kstate = .ieg ∧
      4294967296 ≤ (before .iambicA .send 5 2 true 0x11 0xFFFFFFE2).tick.toNat +
        (before .iambicA .send 5 2 true 0x11 0xFFFFFFE2).profile.tIeg.toNat) ∧
    (∃ t, exec (pollOp noKey) (before .iambicA .ieg 5 2 false 0x12 0xFFFFFFE3) = .next t ∧ t.kstate = .lgap ∧
      4294967296 ≤ (before .iambicA .ieg 5 2 false 0x12 0xFFFFFFE3).tick.toNat +
        (before .iambicA .ieg 5 2 false 0x12 0xFFFFFFE3).profile.tLgapDec.toNat) ∧
    ∃ t, exec (pollOp noKey) (before .iambicA .lgap 5 2 false 0x5B 0xFFFFFFE4) = .next t ∧ t.kstate = .wgap ∧
      4294967296 ≤ (before .iambicA .lgap 5 2 false 0x5B 0xFFFFFFE4).tick.toNat +
        (before .iambicA .lgap 5 2 false 0x5B 0xFFFFFFE4).profile.tWgapDec.toNat :=
  ⟨⟨_, rfl, rfl, by decide⟩, ⟨_, rfl, rfl, by decide⟩, _, rfl, rfl, by decide⟩
theorem witness_resolution : ({ wpm25 .iambicA with maddr := 128, record := true } : State).maddr ≠ 0 ∧
    128 ≤ ({ wpm25 .iambicA with maddr := 128 } : State).maddr.toNat ∧ ({ wpm25 .iambicA with maddr := 127 } : State).maddr.toNat < 128 ∧
    ({ wpm25 .iambicA with maddr := 0 } : State).maddr = 0 := by decide
/-- An address of each of the last two kinds, whatever the open prosign addresses are. -/
theorem witness_resolution_prosign : ∃ s : State, s.maddr = Config.params.addrBreak ∧ s.maddr ≠ Config.params.addrSk :=
  ⟨{ State.reset with maddr := Config.params.addrBreak }, rfl, Config.params.prosigns_distinct⟩
theorem witness_fixed_characters : (wpm25 .iambicA).record = false ∧ ({ wpm25 .iambicA with maddr := 5 } : State).maddr =
    pushAll 1 [.dit, .dah] ∧ (2 : Byte) = pushAll 1 [.dit] ∧ (3 : Byte) = pushAll 1 [.dah] := by decide
theorem witness_symbol_strings : (List.replicate 7 Symbol.dit).length = 7 ∧ 8 ≤ (List.replicate 8 Symbol.dit).length ∧
    ∀ sym ∈ lastEight (List.replicate 8 Symbol.dit), sym = .dit := by decide
/-- The shift `VOL_MAX - vol` of the ON arm, whatever `VOL_MAX` is. -/
theorem witness_shift : Config.params.volMax + (ringing 0 100 true true 0).vol.toNat = Config.params.volMax := rfl
theorem witness_audio_off : (wpm25 .straight).tx = false ∧ ∃ u, exec .audiotick (wpm25 .straight) = .next u := ⟨rfl, _, rfl⟩
theorem witness_audio_on : (ringing 0 100 true true 0).tx = true ∧ (ringing 0 100 true true 0).toneW = true ∧
    (ringing 0 100 true true 0).volW = true ∧ (ringing 0 100 true true 0).tone = true ∧
    (ringing 0 100 true false 0).tone = false ∧ ∃ t, exec .audiotick (ringing 0 100 true true 0) = .next t :=
  ⟨rfl, rfl, rfl, rfl, rfl, _, rfl⟩
/-- Two states that differ in everything the oscillator does not read. -/
theorem witness_oscillator_inputs : (ringing 25 94 true false 0).tx = ({ ringing 25 94 true false 0 with mode := .ultimatic, tick := 9, pwm := 7 } : State).tx ∧
    (ringing 25 94 true false 0).sinv = ({ ringing 25 94 true false 0 with mode := .ultimatic, tick := 9, pwm := 7 } : State).sinv ∧
    ∃ t, exec .audiotick (ringing 25 94 true false 0) = .next t := ⟨rfl, rfl, _, rfl⟩
theorem witness_poll_changes_tx : ∃ t, exec (pollOp keyA) (wpm25 .straight) = .next t ∧ t.tx = true ∧
    (wpm25 .straight).toneW = true ∧ (wpm25 .straight).volW = true := ⟨_, rfl, rfl, rfl, rfl⟩
theorem witness_poll_releases_tx : ∃ t, exec (pollOp noKey) { wpm25 .straight with tx := true } = .next t ∧ t.tx = false :=
  ⟨_, rfl, rfl⟩
theorem witness_invariant_step : ({ wpm25 .iambicA with schedule := [0x1003] } : State).Inv ∧
    ∃ t, step { wpm25 .iambicA with schedule := [0x1003] } = .next t :=
  ⟨{ squeeze := by decide, wordGap := by decide, validProfile := rfl, speed := by decide,
     volume := fun _ => Nat.zero_le _ }, _, rfl⟩
theorem witness_keyed_only_in_send : (wpm25 .iambicA).KeyedOnlyInSend ∧ (wpm25 .iambicA).mode ≠ .straight ∧
    ∃ t, exec (pollOp keyA) (wpm25 .iambicA) = .next t := ⟨by decide, by decide, _, rfl⟩
/-- Two states that differ in every register nothing has written. -/
theorem witness_same_specified : SameSpecified State.reset
    { State.reset with ktimer := 9, wpm := 99, mode := .ultimatic, swap := true, vol := 200, record := true, freeCtr := 3 } := by
  constructor <;> first | rfl | (intro h; exact absurd h (by decide))

end Sys2Proof.Tests
end

section
/-! PROOFS. The order of the poll loop and the audio interrupt (20_memory.md R68). -/

namespace Sys2Proof.Machine

/-- `POLL` changes only what the poll loop owns, and appends to the trace (20_memory.md R67). -/
theorem exec_pollOp_frame {x : Samples} {s t : State} (h : exec (pollOp x) s = .next t) :
    ∃ k f d b a tr,
      t = { s with kstate := k, flags := f, ktimer := d, tx := b, maddr := a, trace := tr } := by
  rw [exec_pollOp] at h
  rcases pollWith_cases Config.params x s with ⟨_, e⟩ | ⟨_, e⟩ <;> rw [e] at h <;> cases h
  exact runArm_frame Config.params _ x s

/-- With the key up `AUDIOTICK` is the OFF arm (44_sidetone_oscillator.md R186). -/
theorem exec_audiotick_off {s : State} (h : s.tx = false) :
    exec .audiotick s = .next (audioOff Config.params s) := by
  simp [exec, execAudiotick, audiotickWith, h]

/-- With the key down and its configuration written `AUDIOTICK` is the ON arm (R187, R188, R236). -/
theorem exec_audiotick_on {s : State} (h : s.tx = true) (htone : s.toneW = true) (hvol : s.volW = true) :
    exec .audiotick s = .next (audioOn Config.params s) := by
  simp [exec, execAudiotick, audiotickWith, h, htone, hvol]

/-- Settles O50: a `POLL` keeps the oscillator's registers and inputs, and the flag it leaves selects the arm of the
`AUDIOTICK` after it. -/
theorem audioSeesTheCommittedTransmitFlag : Obligations.AudioSeesTheCommittedTransmitFlag := by
  intro s t x h
  obtain ⟨k, f, d, b, a, tr, rfl⟩ := exec_pollOp_frame h
  refine ⟨rfl, rfl, rfl, fun hoff => ?_, fun hon htone hvol => ?_⟩
  · exact ⟨_, exec_audiotick_off hoff, rfl, rfl, cosInit_toInt Config.params⟩
  · exact ⟨_, exec_audiotick_on hon htone hvol, rfl, fun _ => rfl⟩

end Sys2Proof.Machine
end

section
/-! PROOFS. The fields of an operation word, and what the decoder answers on every word (30_encoding.md R80 to R88). -/

namespace Sys2Proof

open Sys2Proof.Machine

theorem opcField_toNat (w : OpWord) : (opcField w).toNat = w.toNat / 4096 := by
  simp only [opcField, BitVec.extractLsb'_toNat, Nat.shiftRight_eq_div_pow]
  omega

theorem argField_getLsbD (w : OpWord) {b : Nat} (hb : b < 12) : (argField w).getLsbD b = w.getLsbD b := by
  simp [argField, hb]

theorem opcField_getLsbD (w : OpWord) {b : Nat} (hb : b < 4) : (opcField w).getLsbD b = w.getLsbD (12 + b) := by
  simp [opcField, hb]

/-- The bits of `arg` from `lo` up are 0, said of the word's own bits. -/
theorem argZeroFrom_iff (lo : Nat) (w : OpWord) :
    argZeroFrom lo w = true ↔ ∀ b, lo ≤ b → b < 12 → w.getLsbD b = false := by
  simp only [argZeroFrom, beq_iff_eq]
  constructor
  · intro h b hlo hb
    have hbit := congrArg (·.getLsbD (b - lo)) h
    simpa [show lo + (b - lo) = b by omega, argField_getLsbD w hb] using hbit
  · intro h
    refine BitVec.eq_of_getLsbD_eq fun i _ => ?_
    rw [BitVec.getLsbD_ushiftRight, BitVec.ofNat_eq_ofNat, BitVec.getLsbD_zero]
    by_cases hb : lo + i < 12
    · rw [argField_getLsbD w hb, h _ (Nat.le_add_right lo i) hb]
    · exact BitVec.getLsbD_of_ge _ _ (by omega)

/-- Illegality (R87) said of the two fields, as the decoder tests it. -/
theorem illegalOpWord_iff (w : OpWord) :
    IllegalOpWord w ↔ (opcField w).toNat ∈ [0x0, 0xA, 0xB, 0xC, 0xD, 0xE] ∨
      argZeroFrom (zeroFrom (opcField w).toNat) w = false := by
  rw [IllegalOpWord, ← opcField_toNat, ← Bool.not_eq_true, argZeroFrom_iff]
  push Not
  simp only [ne_eq, Bool.not_eq_false]

/-- Exactly the illegal words decode to nothing (R87). -/
theorem illegalOpWord_iff_decode_eq_none (w : OpWord) : IllegalOpWord w ↔ decode w = none := by
  rw [illegalOpWord_iff]
  have hopc := (opcField w).isLt
  unfold decode
  split
  case h_11 =>
    -- no opcode of R81: one of the six reserved ones
    refine iff_of_true (.inl ?_) rfl
    simp only [List.mem_cons, List.not_mem_nil, or_false]
    grind
  all_goals next h => simp [h, zeroFrom]

/-- A word whose `arg` bits from `lo` up are 0 is, masked down to `opc` and those bits, its `opc` alone. -/
theorem and_mask_of_argZeroFrom {lo : Nat} {w : OpWord} (h : argZeroFrom lo w = true) (hlo : lo ≤ 12) :
    w &&& (0xFFFF#16 <<< lo) = opWord (opcField w) 0 := by
  rw [argZeroFrom_iff] at h
  refine BitVec.eq_of_getLsbD_eq fun i hi => ?_
  have ones : (0xFFFF#16).getLsbD (i - lo) = true := by
    rw [show (0xFFFF#16) = BitVec.allOnes 16 from rfl, BitVec.getLsbD_allOnes]
    exact decide_eq_true (by omega)
  rw [opWord, BitVec.getLsbD_append, BitVec.getLsbD_and, BitVec.getLsbD_shiftLeft, ones]
  by_cases harg : i < 12
  · by_cases hlow : i < lo
    · simp [harg, hlow]
    · simp [harg, h i (by omega) harg]
  · have hlow : ¬ i < lo := by omega
    simp [harg, hi, hlow, opcField_getLsbD w (show i - 12 < 4 by omega), show 12 + (i - 12) = i by omega]

/-- The words of one opcode `k` whose `arg` bits from `lo` up are 0 have the fixed bits of a row (R81). -/
theorem and_mask_eq_match {lo k : Nat} {w : OpWord} (hk : (opcField w).toNat = k) (hz : argZeroFrom lo w = true)
    (hlo : lo ≤ 12) : w &&& (0xFFFF#16 <<< lo) = opWord (BitVec.ofNat 4 k) 0 := by
  rw [and_mask_of_argZeroFrom hz hlo, ← hk, BitVec.ofNat_toNat, BitVec.setWidth_eq]

/-- A word that decodes has the fixed bits of its operation's row (R81). -/
theorem word_matches_row_of_decode {w : OpWord} {i : Instr} (h : decode w = some i) :
    w &&& rowMask i = rowMatch i := by
  unfold decode at h
  split at h
  case h_11 => cases h
  all_goals
    next hk =>
    split at h
    · next hz =>
      cases h
      exact and_mask_eq_match hk hz (by decide)
    · cases h

/-- An operation whose row fixes all 16 bits has one word. -/
theorem word_eq_rowMatch_of_decode {w : OpWord} {i : Instr} (hmask : rowMask i = 0xFFFF) (h : decode w = some i) :
    w = rowMatch i := by
  have hrow := word_matches_row_of_decode h
  rwa [hmask, show (0xFFFF : OpWord) = BitVec.allOnes 16 from rfl, BitVec.and_allOnes] at hrow

/-- A step on a word that does not decode refuses that word (R87). -/
theorem step_refused_of_decode_eq_none {s : State} {w : OpWord} {rest : List OpWord} (hs : s.schedule = w :: rest)
    (hd : decode w = none) : step s = .refused (.illegalWord w) := by
  rcases step_cases s with ⟨hs', _⟩ | ⟨_, _, hs', _, e⟩ | ⟨_, _, _, hs', hd', _⟩ <;> rw [hs] at hs' <;> cases hs'
  · exact e
  · rw [hd] at hd'; cases hd'

/-- Settles O4: the decoder answers nothing exactly on the illegal words, a step refuses what does not decode, and
`SETWPM` and `SETVOL` test their operands themselves. -/
theorem illegalWordsAreRefused : Obligations.IllegalWordsAreRefused := by
  refine ⟨fun s w rest hs => ?_, fun s n hn => ?_, fun s v hv => ?_⟩
  · have hiff := illegalOpWord_iff_decode_eq_none w
    exact ⟨hiff, fun hw => step_refused_of_decode_eq_none hs (hiff.mp hw)⟩
  · rcases execSetwpm_cases n s with ⟨_, _, _⟩ | ⟨_, e⟩
    · omega
    · exact e
  · rcases setvolWith_cases Config.params v s with ⟨_, _⟩ | ⟨_, e⟩
    · omega
    · exact e

/-- Settles O5: their rows fix all 16 bits. -/
theorem operandlessOperationsHaveOneWord : Obligations.OperandlessOperationsHaveOneWord := by
  refine fun w => ⟨⟨word_eq_rowMatch_of_decode rfl, ?_⟩, ⟨word_eq_rowMatch_of_decode rfl, ?_⟩,
    ⟨word_eq_rowMatch_of_decode rfl, ?_⟩⟩
  · rintro rfl; decide
  · rintro rfl; decide
  · rintro rfl; decide

end Sys2Proof
end

section
/-! PROOFS. `POLL` and the row of the arm that the state selects (30_encoding.md R89, 42_keyer_fsm.md R140). -/

namespace Sys2Proof.Machine

/-- The row of the arm that the state selects answers what `POLL` answers, refusals included (30_encoding.md R89). -/
theorem exec_pollOp_eq_armOp {s : State} {arm : Arm} (x : Samples) (h : selectArm s.mode s.kstate = arm) :
    exec (pollOp x) s = exec (armOp arm x) s := by
  rw [exec_pollOp, exec_armOp, pollWith, armWith, if_pos h, h]

/-- Settles O22: in Straight mode the straight arm is selected, elsewhere the arm of `kstate`. -/
theorem pollRunsTheSelectedArm : Obligations.PollRunsTheSelectedArm := by
  intro s x
  refine ⟨fun hm => exec_pollOp_eq_armOp x (by rw [hm]; rfl), fun hm => ⟨?_, ?_, ?_, ?_, ?_, ?_⟩⟩ <;>
    exact fun hk => exec_pollOp_eq_armOp x (by rw [selectArm_sequenced hm, hk])

end Sys2Proof.Machine
end

section
/-! PROOFS. The address of a string of symbols (30_encoding.md R94, 43_morse_decoder.md R171). -/

namespace Sys2Proof.Machine

theorem pushAll_append (a : Byte) (xs ys : List Symbol) : pushAll a (xs ++ ys) = pushAll (pushAll a xs) ys :=
  List.foldl_append

@[simp] theorem pushAll_concat (a : Byte) (syms : List Symbol) (sym : Symbol) :
    pushAll a (syms ++ [sym]) = pushSymbol (pushAll a syms) sym := pushAll_append a syms [sym]

@[simp] theorem symbolValue_concat (syms : List Symbol) (sym : Symbol) :
    symbolValue (syms ++ [sym]) = 2 * symbolValue syms + symbolBit sym := List.foldl_append

theorem symbolBit_lt_two (sym : Symbol) : symbolBit sym < 2 := by cases sym <;> decide

theorem symbolValue_lt (syms : List Symbol) : symbolValue syms < 2 ^ syms.length := by
  induction syms using List.reverseRecOn with
  | nil => decide
  | append_singleton syms sym ih =>
    have := symbolBit_lt_two sym
    rw [symbolValue_concat, List.length_append, List.length_singleton, pow_succ]
    omega

/-- Pushing a string shifts the address left by its length and adds its value, in 8 bits (43_morse_decoder.md R171). -/
theorem pushAll_toNat (a : Byte) (syms : List Symbol) :
    (pushAll a syms).toNat = (a.toNat * 2 ^ syms.length + symbolValue syms) % 256 := by
  induction syms using List.reverseRecOn with
  | nil => simpa [pushAll, symbolValue] using (Nat.mod_eq_of_lt a.isLt).symm
  | append_singleton syms sym ih =>
    rw [pushAll_concat, pushSymbol_toNat, ih, symbolValue_concat, List.length_append, List.length_singleton, pow_succ,
      ← mul_assoc]
    omega

theorem pushAll_one_toNat_of_short {syms : List Symbol} (h : syms.length ≤ 7) :
    (pushAll 1 syms).toNat = 2 ^ syms.length + symbolValue syms := by
  have hv := symbolValue_lt syms
  have hp : 2 ^ syms.length ≤ 2 ^ 7 := Nat.pow_le_pow_right (by decide) h
  rw [pushAll_toNat, show (1 : Byte).toNat = 1 from rfl]
  omega

/-- Eight symbols shift every earlier bit out of the address. -/
theorem pushAll_toNat_of_long (a : Byte) {syms : List Symbol} (h : 8 ≤ syms.length) :
    (pushAll a syms).toNat = symbolValue (lastEight syms) := by
  have hlen : (lastEight syms).length = 8 := by rw [lastEight, List.length_drop]; omega
  have hv := symbolValue_lt (lastEight syms)
  have hsplit : pushAll a syms = pushAll (pushAll a (syms.take (syms.length - 8))) (lastEight syms) := by
    rw [← pushAll_append, lastEight, List.take_append_drop]
  rw [hlen] at hv
  rw [hsplit, pushAll_toNat, hlen]
  omega

/-- Settles O43: up to seven symbols fit in 8 bits beside the sentinel; from eight on the wrap leaves the last eight. -/
theorem addressOfASymbolString : Obligations.AddressOfASymbolString := by
  refine fun syms => ⟨pushAll_one_toNat_of_short, fun h => ?_, pushAll_toNat_of_long 1⟩
  rw [pushAll_one_toNat_of_short h.le, h]
  exact Nat.le_add_right _ _

end Sys2Proof.Machine
end

section
/-! PROOFS. The numbers of the modes and sequencer states and the layout of `flags` (30_encoding.md R84, R90, R91). -/

namespace Sys2Proof.Machine

theorem mode_code_ofCode (c : BitVec 2) : (Mode.ofCode c).code = c := by
  revert c; decide

theorem KState.ofCode_code (k : KState) : KState.ofCode k.code = some k := by
  cases k <;> rfl

/-- Bit `n` of `flags` is the flag that R91 names there. -/
theorem Flags.bits_getLsbD (f : Flags) :
    f.bits.getLsbD 0 = f.dit ∧ f.bits.getLsbD 1 = f.dah ∧ f.bits.getLsbD 2 = f.wasdit ∧ f.bits.getLsbD 3 = f.sqz := by
  obtain ⟨d, h, w, q⟩ := f
  revert d h w q; decide

theorem Flags.ofBits_bits (f : Flags) : Flags.ofBits f.bits = f := by
  obtain ⟨hdit, hdah, hwasdit, hsqz⟩ := f.bits_getLsbD
  rw [Flags.ofBits, hdit, hdah, hwasdit, hsqz]

/-- Settles O7: each code is read back as the value it numbers, and `flags` keeps its bits. -/
theorem enumerationsHaveTheirNumbers : Obligations.EnumerationsHaveTheirNumbers := by
  refine ⟨by decide, mode_code_ofCode, by decide, KState.ofCode_code, rfl, rfl, fun f => ?_⟩
  obtain ⟨hdit, hdah, hwasdit, hsqz⟩ := f.bits_getLsbD
  exact ⟨hdit, hdah, hwasdit, hsqz, f.ofBits_bits⟩

end Sys2Proof.Machine
end

section
/-! PROOFS. What the configuration operations write: the seven durations of a speed, and the volume
(40_timing_profile_config.md R110 to R118). -/

namespace Sys2Proof.Machine

/-! ### The profile of a speed

No speed makes a duration wrap in its 16 bits: the largest is `7 * 1200`. -/

/-- The truncated quotient of R110 and its multiples up to 7 fit in 16 bits, whatever the speed. -/
theorem ditMultiple_lt (n : Nat) {k : Nat} (hk : k ≤ 7) : k * (1200 / n) < 2 ^ 16 :=
  calc k * (1200 / n) ≤ 7 * 1200 := Nat.mul_le_mul hk (Nat.div_le_self 1200 n)
    _ < 2 ^ 16 := by decide

/-- A number of milliseconds below `2 ^ 16` is kept by a duration. -/
theorem duration_toNat {x : Nat} (h : x < 2 ^ 16) : (BitVec.ofNat 16 x : Duration).toNat = x :=
  (BitVec.toNat_ofNat x 16).trans (Nat.mod_eq_of_lt h)

@[simp] theorem profileOf_tDit_toNat (n : Nat) : (profileOf n).tDit.toNat = 1200 / n :=
  duration_toNat ((Nat.div_le_self 1200 n).trans_lt (by decide))

@[simp] theorem profileOf_tDah_toNat (n : Nat) : (profileOf n).tDah.toNat = 3 * (1200 / n) :=
  duration_toNat (ditMultiple_lt n (by decide))

@[simp] theorem profileOf_tIeg (n : Nat) : (profileOf n).tIeg = (profileOf n).tDit := rfl

@[simp] theorem profileOf_tLgapDec_toNat (n : Nat) : (profileOf n).tLgapDec.toNat = (5 * 1200) / (2 * n) :=
  duration_toNat ((Nat.div_le_self (5 * 1200) (2 * n)).trans_lt (by decide))

@[simp] theorem profileOf_tLgapSend (n : Nat) : (profileOf n).tLgapSend = (profileOf n).tDah := rfl

@[simp] theorem profileOf_tWgapDec (n : Nat) : (profileOf n).tWgapDec = (profileOf n).tDah := rfl

@[simp] theorem profileOf_tWgapSend_toNat (n : Nat) : (profileOf n).tWgapSend.toNat = 7 * (1200 / n) :=
  duration_toNat (ditMultiple_lt n le_rfl)

/-! ### The operations with a checked operand, by cases of the operand -/

/-- A legal speed is written with its profile and both marks (R110). -/
theorem exec_setwpm_of_legal (s : State) {n : Byte} (hlo : 10 ≤ n.toNat) (hhi : n.toNat ≤ 60) :
    exec (.setwpm n) s =
      .next { s with wpm := n, profile := profileOf n.toNat, wpmW := true, profValid := true } := by
  rcases execSetwpm_cases n s with ⟨_, _, e⟩ | ⟨_, _⟩
  · exact e
  · omega

/-- A volume up to `VOL_MAX` is written with its written-bit (R118). -/
theorem exec_setvol_of_legal (s : State) {v : Byte} (hv : v.toNat ≤ Config.params.volMax) :
    exec (.setvol v) s = .next { s with vol := v, volW := true } := by
  rcases setvolWith_cases Config.params v s with ⟨_, e⟩ | ⟨_, _⟩
  · exact e
  · omega

/-! ### The obligations -/

/-- Settles O14: a legal speed writes its profile, whose durations do not wrap; O4 has the refusal. -/
theorem setwpmComputesTheProfile : Obligations.SetwpmComputesTheProfile := by
  obtain ⟨_, hrefused, _⟩ := illegalWordsAreRefused
  refine fun s n => ⟨fun hlo hhi => ⟨_, exec_setwpm_of_legal s hlo hhi, rfl, ?_⟩, hrefused s n⟩
  simp

/-- Settles O16: neither operation has a refusal, and each writes its register and its mark alone. -/
theorem setmodeAndSetswapWriteOneRegister : Obligations.SetmodeAndSetswapWriteOneRegister :=
  fun _ => ⟨fun _ => rfl, fun _ => rfl⟩

/-- Settles O18: a volume up to `VOL_MAX` is written, O4 has the refusal, and the shift is `VOL_MAX - v`. -/
theorem setvolWritesALegalVolume : Obligations.SetvolWritesALegalVolume := by
  obtain ⟨_, _, hrefused⟩ := illegalWordsAreRefused
  refine fun s v => ⟨exec_setvol_of_legal s, hrefused s v, fun hmax => ?_, Nat.sub_zero _⟩
  rw [volShift, hmax, Nat.sub_self]

end Sys2Proof.Machine
end

section
/-! PROOFS. The tick source, the Paddle Reader, and the polls in which it runs
(41_paddle_reader_tick.md R130 to R135). -/

namespace Sys2Proof.Machine

/-! ### The tick source -/

/-- Settles O13: `MSTICK` is never refused, and the sum is cut to 32 bits. -/
theorem mstickAdvancesTheTick : Obligations.MstickAdvancesTheTick :=
  fun s => ⟨_, rfl, wrap32_toNat (s.tick.toNat + 1), rfl⟩

/-! ### What one reading assigns -/

theorem lineA_iff (x : Samples) : lineA x = true ↔ x.a1 = true ∧ x.a2 = true := Bool.and_eq_true_iff

theorem lineB_iff (x : Samples) : lineB x = true ↔ x.b1 = true ∧ x.b2 = true := Bool.and_eq_true_iff

/-- The dit paddle is line A, or line B when swapped (R132). -/
theorem ditPressed_iff (swap : Bool) (x : Samples) :
    ditPressed swap x = true ↔
      (swap = false ∧ x.a1 = true ∧ x.a2 = true) ∨ (swap = true ∧ x.b1 = true ∧ x.b2 = true) := by
  cases swap
  · simpa [ditPressed] using lineA_iff x
  · simpa [ditPressed] using lineB_iff x

/-- The dah paddle is the other line: the dit paddle of the opposite `swap` (R132). -/
theorem dahPressed_eq_ditPressed_not (swap : Bool) (x : Samples) : dahPressed swap x = ditPressed (!swap) x := by
  cases swap <;> rfl

theorem dahPressed_iff (swap : Bool) (x : Samples) :
    dahPressed swap x = true ↔
      (swap = false ∧ x.b1 = true ∧ x.b2 = true) ∨ (swap = true ∧ x.a1 = true ∧ x.a2 = true) := by
  simp [dahPressed_eq_ditPressed_not, ditPressed_iff, or_comm]

/-- A squeeze is both lines asserted, whichever paddle each of them is (R131, R132). -/
theorem paddleRead_sqz_iff (x : Samples) (s : State) :
    (paddleRead x s).flags.sqz = true ↔ (x.a1 = true ∧ x.a2 = true) ∧ (x.b1 = true ∧ x.b2 = true) := by
  have hboth : (ditPressed s.swap x && dahPressed s.swap x) = (lineA x && lineB x) := by
    cases s.swap
    · rfl
    · exact Bool.and_comm _ _
  rw [paddleRead_flags, readerFlags_sqz, hboth, Bool.and_eq_true_iff, lineA_iff, lineB_iff]

theorem paddleRead_trace_of_pressed {x : Samples} (s : State) (h : x.Pressed) :
    (paddleRead x s).trace = s.trace ++ [.activity] := by
  rw [paddleRead_trace, readerEvents_paddle, if_pos h]

theorem paddleRead_trace_of_not_pressed {x : Samples} (s : State) (h : ¬ x.Pressed) :
    (paddleRead x s).trace = s.trace := by
  rw [paddleRead_trace, readerEvents_paddle, if_neg h, List.append_nil]

/-- Settles O20: the paddles are the lines exchanged by `swap`, a squeeze is both of them, and the event follows
`Samples.Pressed`. -/
theorem paddleReaderAssignsTheFlags : Obligations.PaddleReaderAssignsTheFlags :=
  fun x s => ⟨ditPressed_iff s.swap x, dahPressed_iff s.swap x, paddleRead_sqz_iff x s, rfl,
    paddleRead_trace_of_pressed s, paddleRead_trace_of_not_pressed s, rfl⟩

/-! ### The arms without the reader: the flags stay latched -/

/-- A `POLL` that goes on is configured, and leaves the state of the selected arm. -/
theorem runArm_of_exec_pollOp {x : Samples} {s t : State} (h : exec (pollOp x) s = .next t) :
    s.PollConfigured ∧ t = runArm Config.params (selectArm s.mode s.kstate) x s := by
  rw [exec_pollOp] at h
  rcases pollWith_cases Config.params x s with ⟨hc, e⟩ | ⟨_, e⟩ <;> rw [e] at h <;> cases h
  exact ⟨hc, rfl⟩

/-- The choice of an element emits nothing, and of the flags writes `WASDIT` alone (42_keyer_fsm.md R145). -/
theorem armEval_latches (s : State) :
    (armEval s).trace = s.trace ∧ (armEval s).flags.dit = s.flags.dit ∧ (armEval s).flags.dah = s.flags.dah ∧
      (armEval s).flags.sqz = s.flags.sqz := by
  rcases armEval_cases s with ⟨_, _, e⟩ | ⟨_, _, e⟩ <;> rw [e] <;> exact ⟨rfl, rfl, rfl, rfl⟩

theorem armSend_latches (s : State) : (armSend s).trace = s.trace ∧ (armSend s).flags = s.flags := by
  rcases armSend_cases s with ⟨_, e⟩ | ⟨_, e⟩ <;> rw [e] <;> exact ⟨rfl, rfl⟩

/-- The inter-element gap emits nothing and keeps what was read, but for the squeeze that the Iambic-B memory uses
up (42_keyer_fsm.md R147). -/
theorem armIeg_latches (s : State) :
    (armIeg s).trace = s.trace ∧ (armIeg s).flags.dit = s.flags.dit ∧ (armIeg s).flags.dah = s.flags.dah ∧
      ((armIeg s).flags.sqz = s.flags.sqz ∨ (s.mode = .iambicB ∧ (armIeg s).flags.sqz = false)) := by
  rcases armIeg_cases s with ⟨_, hmode, _, e⟩ | ⟨_, _, e⟩ | ⟨_, e⟩ <;> rw [e]
  · exact ⟨rfl, rfl, rfl, .inr ⟨hmode, rfl⟩⟩
  · exact ⟨rfl, rfl, rfl, .inl rfl⟩
  · exact ⟨rfl, rfl, rfl, .inl rfl⟩

/-- A letter gap whose deadline has passed does not read the paddles (R148). -/
theorem armLgap_congr_of_passed (p : Params) {s : State} (h : s.ktimer.toNat < s.tick.toNat) (x y : Samples) :
    armLgap p x s = armLgap p y s := by
  simp [armLgap, h]

/-- A word gap whose deadline has passed does not read the paddles (R149). -/
theorem armWgap_congr_of_passed {s : State} (h : s.ktimer.toNat < s.tick.toNat) (x y : Samples) :
    armWgap x s = armWgap y s := by
  simp [armWgap, h]

/-- Where the reader does not run, the selected arm leaves the same state whatever the samples (R135). -/
theorem runArm_congr_of_not_readerRuns (p : Params) {s : State} (h : ¬ s.ReaderRuns) (x y : Samples) :
    runArm p (selectArm s.mode s.kstate) x s = runArm p (selectArm s.mode s.kstate) y s := by
  simp only [State.ReaderRuns, not_or, not_and, not_le] at h
  obtain ⟨hmode, hidle, hgap⟩ := h
  rw [selectArm_sequenced hmode]
  cases hk : s.kstate with
  | idle => exact absurd hk hidle
  | eval => rfl
  | send => rfl
  | ieg => rfl
  | lgap => exact armLgap_congr_of_passed p (hgap (.inl hk)) x y
  | wgap => exact armWgap_congr_of_passed (hgap (.inr hk)) x y

theorem exec_pollOp_congr_of_not_readerRuns {s : State} (h : ¬ s.ReaderRuns) (x y : Samples) :
    exec (pollOp x) s = exec (pollOp y) s := by
  rw [exec_pollOp, exec_pollOp, pollWith, pollWith, runArm_congr_of_not_readerRuns _ h x y]

/-! ### The arms with the reader -/

/-- A press or none, the last part of a gap leaves the trace and the flags of the reading (R148, R149). -/
theorem readForEval_trace_flags (x : Samples) (s : State) :
    (readForEval x s).trace = (paddleRead x s).trace ∧ (readForEval x s).flags = (paddleRead x s).flags := by
  rcases readForEval_cases x s with ⟨_, e⟩ | ⟨_, e⟩ <;> rw [e] <;> exact ⟨rfl, rfl⟩

/-- `Idle` emits what the reading emits, and keeps its flags when it found a key (R144). -/
theorem armIdle_trace_flags (x : Samples) (s : State) :
    (armIdle x s).trace = (paddleRead x s).trace ∧ (x.Pressed → (armIdle x s).flags = (paddleRead x s).flags) := by
  rcases armIdle_cases x s with ⟨_, e⟩ | ⟨hp, e⟩ <;> rw [e]
  · exact ⟨rfl, fun _ => rfl⟩
  · exact ⟨(paddleRead_trace_of_not_pressed s hp).symm, fun h => absurd h hp⟩

theorem armLgap_eq_readForEval (p : Params) (x : Samples) {s : State} (h : s.tick.toNat ≤ s.ktimer.toNat) :
    armLgap p x s = readForEval x s := by
  rcases armLgap_cases p x s with ⟨hlt, _⟩ | ⟨_, e⟩
  · exact absurd h hlt.not_ge
  · exact e

theorem armWgap_eq_readForEval (x : Samples) {s : State} (h : s.tick.toNat ≤ s.ktimer.toNat) :
    armWgap x s = readForEval x s := by
  rcases armWgap_cases x s with ⟨hlt, _⟩ | ⟨_, e⟩
  · exact absurd h hlt.not_ge
  · exact e

/-- Where the reader runs, the selected arm leaves its trace, and its flags unless `Idle` found no key (R135, R144). -/
theorem runArm_of_readerRuns (p : Params) (x : Samples) {s : State} (h : s.ReaderRuns) :
    (runArm p (selectArm s.mode s.kstate) x s).trace = (paddleRead x s).trace ∧
      (x.Pressed ∨ s.mode = .straight ∨ s.kstate ≠ .idle →
        (runArm p (selectArm s.mode s.kstate) x s).flags = (paddleRead x s).flags) := by
  by_cases hmode : s.mode = .straight
  · rw [hmode]
    exact ⟨rfl, fun _ => rfl⟩
  rw [selectArm_sequenced hmode]
  rcases h with hs | hk | ⟨hk | hk, hle⟩
  · exact absurd hs hmode
  · obtain ⟨htrace, hflags⟩ := armIdle_trace_flags x s
    rw [hk]
    exact ⟨htrace, fun hread => hflags (hread.resolve_right (by simp [hmode]))⟩
  · obtain ⟨htrace, hflags⟩ := readForEval_trace_flags x s
    rw [hk, runArm, armLgap_eq_readForEval p x hle]
    exact ⟨htrace, fun _ => hflags⟩
  · obtain ⟨htrace, hflags⟩ := readForEval_trace_flags x s
    rw [hk, runArm, armWgap_eq_readForEval x hle]
    exact ⟨htrace, fun _ => hflags⟩

/-- Settles O21: by whether the reader runs; where it does not, by the arm of `kstate`. -/
theorem readerRunsOnlyInItsArms : Obligations.ReaderRunsOnlyInItsArms := by
  refine ⟨fun s x y hmode hk => ?_, fun s t x hmode hk h => ?_, fun s t x hruns h => ?_⟩
  · have hoff : ¬ s.ReaderRuns := by
      rcases hk with hk | hk | hk | ⟨hk | hk, hlt⟩ <;> simp [*]
    exact exec_pollOp_congr_of_not_readerRuns hoff x y
  · obtain ⟨_, rfl⟩ := runArm_of_exec_pollOp h
    rw [selectArm_sequenced hmode]
    rcases hk with hk | hk | hk <;> rw [hk]
    · obtain ⟨htrace, hdit, hdah, hsqz⟩ := armEval_latches s
      exact ⟨htrace, hdit, hdah, .inl hsqz⟩
    · obtain ⟨htrace, hflags⟩ := armSend_latches s
      exact ⟨htrace, congrArg Flags.dit hflags, congrArg Flags.dah hflags, .inl (congrArg Flags.sqz hflags)⟩
    · obtain ⟨htrace, hdit, hdah, hsqz⟩ := armIeg_latches s
      exact ⟨htrace, hdit, hdah, hsqz.imp_right fun hmem => ⟨rfl, hmem⟩⟩
  · obtain ⟨_, rfl⟩ := runArm_of_exec_pollOp h
    exact runArm_of_readerRuns Config.params x hruns

end Sys2Proof.Machine
end

section
/-! PROOFS. What a `POLL` leaves in each mode and sequencer state (42_keyer_fsm.md R142 to R149). -/

namespace Sys2Proof.Machine

/-! ### The part of the gaps that reads the paddles -/

theorem readForEval_of_pressed {x : Samples} (s : State) (h : x.Pressed) :
    readForEval x s = { paddleRead x s with kstate := .eval } :=
  if_pos ((keyFound_paddleRead x s).mpr h)

theorem readForEval_of_not_pressed {x : Samples} (s : State) (h : ¬ x.Pressed) :
    readForEval x s = paddleRead x s :=
  if_neg (mt (keyFound_paddleRead x s).mp h)

/-! ### `Eval`: one equation per branch of the element choice (R145) -/

section
variable {s : State}

/-- Ultimatic mode answers a squeeze with the opposite of the recorded symbol, and the record stays. -/
theorem armEval_of_squeeze_ultimatic (hsqz : s.flags.sqz = true) (hmode : s.mode = .ultimatic) :
    armEval s = elementStarted (symbolOpposite s.flags) s.flags s := by
  rw [armEval, if_pos hsqz, if_pos hmode, enterSend_eq_self]

/-- The other modes toggle the record and send what it now says. -/
theorem armEval_of_squeeze_iambic (hsqz : s.flags.sqz = true) (hmode : s.mode ≠ .ultimatic) :
    armEval s = elementStarted (symbolSaid (toggleWasdit s.flags)) (toggleWasdit s.flags) s := by
  rw [armEval, if_pos hsqz, if_neg hmode, enterSend_eq]

theorem armEval_of_dit (hsqz : s.flags.sqz = false) (hdit : s.flags.dit = true) (hdah : s.flags.dah = false) :
    armEval s = elementStarted .dit (setWasdit true s.flags) s := by
  simp [armEval, hsqz, hdit, hdah, enterSend_eq]

theorem armEval_of_dah (hsqz : s.flags.sqz = false) (hdit : s.flags.dit = false) (hdah : s.flags.dah = true) :
    armEval s = elementStarted .dah (setWasdit false s.flags) s := by
  simp [armEval, hsqz, hdit, hdah, enterSend_eq]

/-- With no squeeze, neither paddle or both of them choose no element. -/
theorem armEval_of_no_choice (hsqz : s.flags.sqz = false) (heq : s.flags.dit = s.flags.dah) :
    armEval s = { s with kstate := .idle } := by
  simp [armEval, hsqz, heq]

/-! ### The timed states, before and after the deadline (R141) -/

theorem armSend_of_waiting (h : s.tick.toNat ≤ s.ktimer.toNat) : armSend s = s := by
  simp [armSend, h.not_gt]

theorem armSend_of_passed (h : s.ktimer.toNat < s.tick.toNat) :
    armSend s = { s with tx := false, ktimer := deadline s.tick s.profile.tIeg, kstate := .ieg } := by
  simp [armSend, h]

theorem armIeg_of_waiting (h : s.tick.toNat ≤ s.ktimer.toNat) : armIeg s = s := by
  simp [armIeg, h.not_gt]

/-- The Iambic-B memory: a latched squeeze is used up for one alternate element (R147). -/
theorem armIeg_of_memory (h : s.ktimer.toNat < s.tick.toNat) (hmode : s.mode = .iambicB)
    (hsqz : s.flags.sqz = true) :
    armIeg s = elementStarted (symbolSaid (useSqueeze s.flags)) (useSqueeze s.flags) s := by
  rw [armIeg, if_pos ((deadlinePassed_iff _ _).mpr h), if_pos ⟨hmode, hsqz⟩, enterSend_eq]

theorem armIeg_of_no_memory (h : s.ktimer.toNat < s.tick.toNat)
    (hnone : s.mode ≠ .iambicB ∨ s.flags.sqz = false) :
    armIeg s = { s with ktimer := deadline s.tick s.profile.tLgapDec, kstate := .lgap } := by
  have hmem : ¬ (s.mode = .iambicB ∧ s.flags.sqz = true) := by
    rintro ⟨hmode, hsqz⟩
    simp [hmode, hsqz] at hnone
  rw [armIeg, if_pos ((deadlinePassed_iff _ _).mpr h), if_neg hmem]

theorem armLgap_of_passed (p : Params) (x : Samples) (h : s.ktimer.toNat < s.tick.toNat) :
    armLgap p x s = { resolve p s with
      flags := Flags.clear, ktimer := deadline s.tick s.profile.tWgapDec, kstate := .wgap } := by
  simp [armLgap, h]

theorem armWgap_of_passed (x : Samples) (h : s.ktimer.toNat < s.tick.toNat) :
    armWgap x s = { emit [.word] s with maddr := sentinel, flags := Flags.clear, kstate := .idle } := by
  simp [armWgap, h]

end

/-! ### The obligations -/

/-- Settles O24: the reading, with `tx` set to whether it found a key. -/
theorem straightPollKeysTheTransmitter : Obligations.StraightPollKeysTheTransmitter := by
  intro s x hconf hmode
  obtain ⟨hpoll, harm⟩ := exec_straight (x := x) hconf hmode
  exact ⟨armStraight x s, hpoll, harm, keyFound_paddleRead x s, rfl, rfl, rfl, rfl, rfl⟩

/-- Settles O25: by whether the reading finds a key. -/
theorem idlePollWaitsForAKey : Obligations.IdlePollWaitsForAKey := by
  intro s x hseq hk
  have hexec := exec_idle (x := x) hseq hk
  rcases armIdle_cases x s with ⟨hp, e⟩ | ⟨hp, e⟩ <;> rw [e] at hexec
  · exact ⟨fun _ => hexec, fun hnp => absurd hp hnp⟩
  · exact ⟨fun h => absurd h hp, fun _ => hexec⟩

/-- Settles O26: one branch of the element choice for each clause. -/
theorem evalPollChoosesTheElement : Obligations.EvalPollChoosesTheElement := by
  intro s x hseq hk
  obtain ⟨hpoll, harm⟩ := exec_eval (x := x) hseq hk
  refine ⟨armEval s, hpoll, harm, armEval_of_squeeze_ultimatic, fun hsqz hmode hlast => ?_,
    fun hsqz hmode hlast => ?_, armEval_of_dit, armEval_of_dah, armEval_of_no_choice⟩
  · simp [armEval_of_squeeze_iambic hsqz hmode, symbolSaid, toggleWasdit, hlast]
  · simp [armEval_of_squeeze_iambic hsqz hmode, symbolSaid, toggleWasdit, hlast]

/-- Settles O27: by whether the deadline has passed. -/
theorem sendPollEndsTheElement : Obligations.SendPollEndsTheElement := by
  intro s x hseq hk
  obtain ⟨hpoll, harm⟩ := exec_send (x := x) hseq hk
  refine ⟨fun hwait => ?_, fun hpassed => ⟨armSend s, hpoll, harm, armSend_of_passed hpassed⟩⟩
  rw [armSend_of_waiting hwait] at hpoll harm
  exact ⟨hpoll, harm⟩

/-- Settles O28: by whether the deadline has passed, then by whether the Iambic-B memory holds a squeeze. -/
theorem interElementGapEnds : Obligations.InterElementGapEnds := by
  intro s x hseq hk
  obtain ⟨hpoll, harm⟩ := exec_ieg (x := x) hseq hk
  refine ⟨fun hwait => ?_, fun hpassed => ⟨armIeg s, hpoll, harm, fun hmode hsqz hlast => ?_,
    fun hmode hsqz hlast => ?_, armIeg_of_no_memory hpassed⟩⟩
  · rw [armIeg_of_waiting hwait] at hpoll harm
    exact ⟨hpoll, harm⟩
  · simp [armIeg_of_memory hpassed hmode hsqz, symbolSaid, useSqueeze, hlast]
  · simp [armIeg_of_memory hpassed hmode hsqz, symbolSaid, useSqueeze, hlast]

/-- Settles O29: the deadline first, then the reading. -/
theorem letterGapResolvesOrContinues : Obligations.LetterGapResolvesOrContinues := by
  intro s x hseq hk
  obtain ⟨hpoll, harm⟩ := exec_lgap (x := x) hseq hk
  exact ⟨armLgap Config.params x s, hpoll, harm, armLgap_of_passed Config.params x,
    fun hwait hp => (armLgap_eq_readForEval _ x hwait).trans (readForEval_of_pressed s hp),
    fun hwait hp => (armLgap_eq_readForEval _ x hwait).trans (readForEval_of_not_pressed s hp)⟩

/-- Settles O30: the deadline first, then the reading. -/
theorem wordGapEndsTheWord : Obligations.WordGapEndsTheWord := by
  intro s x hseq hk
  obtain ⟨hpoll, harm⟩ := exec_wgap (x := x) hseq hk
  exact ⟨armWgap x s, hpoll, harm, armWgap_of_passed x,
    fun hwait hp => (armWgap_eq_readForEval x hwait).trans (readForEval_of_pressed s hp),
    fun hwait hp => (armWgap_eq_readForEval x hwait).trans (readForEval_of_not_pressed s hp)⟩

end Sys2Proof.Machine
end

section
/-! PROOFS. What the Morse decoder emits at the end of a letter (43_morse_decoder.md R173 to R178). -/

namespace Sys2Proof.Machine

/-! ### The prosign addresses -/

/-- The address is one of the two non-printing prosigns (R175). -/
def IsProsign (p : Params) (a : Byte) : Prop := a = p.addrBreak ∨ a = p.addrSk

theorem not_isProsign_iff {p : Params} {a : Byte} : ¬ IsProsign p a ↔ a ≠ p.addrBreak ∧ a ≠ p.addrSk := not_or

/-- 0, the bare sentinel and the three fixed characters are no prosigns (R175). -/
theorem not_isProsign_of_reserved (p : Params) {a : Byte} (h : a ∈ ([0, 1, 2, 3, 5] : List Byte)) :
    ¬ IsProsign p a :=
  not_isProsign_iff.mpr ⟨ne_of_mem_of_not_mem h p.break_legal, ne_of_mem_of_not_mem h p.sk_legal⟩

theorem IsProsign.ne_zero {p : Params} {a : Byte} (h : IsProsign p a) : a ≠ 0 := by
  rintro rfl
  exact not_isProsign_of_reserved p (by decide) h

/-! ### The character of an address (R176) -/

theorem resolveChar_of_lt (p : Params) {a : Byte} (h : a.toNat < 128) :
    resolveChar p a = p.decodeTable ⟨a.toNat, h⟩ :=
  dif_pos h

theorem resolveChar_of_le (p : Params) {a : Byte} (h : 128 ≤ a.toNat) : resolveChar p a = wildcard :=
  dif_neg h.not_gt

/-! ### The events of an address: one equation per branch of `RESOLVE` (R173) -/

theorem resolveEvents_zero (p : Params) (record : Bool) : resolveEvents p 0 record = [.clrline] :=
  if_pos rfl

/-- The tests for 0 and for a prosign exclude each other, so their order is not seen here. -/
theorem resolveEvents_of_isProsign {p : Params} {a : Byte} (record : Bool) (h : IsProsign p a) :
    resolveEvents p a record = [] :=
  (if_neg h.ne_zero).trans (if_pos h)

theorem resolveEvents_of_printing {p : Params} {a : Byte} (record : Bool) (h0 : a ≠ 0) (h : ¬ IsProsign p a) :
    resolveEvents p a record =
      if record = true then [.char (resolveChar p a), .record (resolveChar p a)] else [.char (resolveChar p a)] :=
  (if_neg h0).trans (if_neg h)

/-! ### The obligation -/

/-- Settles O41: by the branch of `RESOLVE` that the address takes, with `resolveChar` the byte of the last one. -/
theorem resolutionEmitsByAddress : Obligations.ResolutionEmitsByAddress := by
  intro s
  refine ⟨rfl, fun h0 => ?zero, fun hpro => ?prosign, fun h0 hbreak hsk => ?printing,
    Config.params.prosigns_distinct,
    fun a ha => not_isProsign_iff.mp (not_isProsign_of_reserved Config.params ha)⟩
  case zero => rw [resolve_trace, h0, resolveEvents_zero]
  case prosign => rw [resolve_trace, resolveEvents_of_isProsign s.record hpro, List.append_nil]
  case printing =>
    refine ⟨resolveChar Config.params s.maddr, ?_, resolveChar_of_lt Config.params,
      resolveChar_of_le Config.params⟩
    rw [resolve_trace, resolveEvents_of_printing s.record h0 (not_isProsign_iff.mpr ⟨hbreak, hsk⟩)]

end Sys2Proof.Machine
end

section
/-! PROOFS. The two arms of `AUDIOTICK` in exact integers (44_sidetone_oscillator.md R186 to R190). -/

namespace Sys2Proof.Machine

/-! ### The recurrence and the sample, read as integers -/

theorem toneDelta_false (p : Params) : toneDelta p false = p.delta0 := rfl

theorem toneDelta_true (p : Params) : toneDelta p true = p.delta1 := rfl

/-- The new sine: a floor shift, then a wrap into eight signed bits (R187). -/
theorem nextSin_toInt (p : Params) (tone : Bool) (sinv cosv : Byte) :
    (nextSin p tone sinv cosv).toInt =
      Int.bmod (sinv.toInt + Int.fdiv (toneDelta p tone * cosv.toInt) (2 ^ p.oscShift)) 256 := by
  rw [nextSin, wrap8_toInt, asr_eq_fdiv]

/-- The new cosine, from the sine it is given (R187). -/
theorem nextCos_toInt (p : Params) (tone : Bool) (newSinv cosv : Byte) :
    (nextCos p tone newSinv cosv).toInt =
      Int.bmod (cosv.toInt - Int.fdiv (toneDelta p tone * newSinv.toInt) (2 ^ p.oscShift)) 256 := by
  rw [nextCos, wrap8_toInt, asr_eq_fdiv]

/-- The sample: the midpoint plus the scaled sine, wrapped into eight unsigned bits (R188). -/
theorem pwmSample_toNat (p : Params) (vol sinv : Byte) :
    ((pwmSample p vol sinv).toNat : Int) = (128 + Int.fdiv sinv.toInt (2 ^ volShift p vol)) % 256 := by
  rw [pwmSample, wrap8_toNat, asr_eq_fdiv]
  rfl

/-- A legal volume's shift is what it lacks of `VOL_MAX` (R190). -/
theorem volShift_of_add_eq {p : Params} {vol : Byte} {shift : Nat} (h : shift + vol.toNat = p.volMax) :
    volShift p vol = shift :=
  (Nat.eq_sub_of_add_eq h).symm

/-! ### The obligations -/

/-- Settles O46: the ON arm's step is the one its tone selects, and the cosine and the sample read the new sine. -/
theorem audiotickOnAdvancesThePair : Obligations.AudiotickOnAdvancesThePair := by
  intro s delta hon htone hvol h0 h1
  have hdelta : delta = toneDelta Config.params s.tone := by
    cases h : s.tone with
    | false => rw [h0 h, toneDelta_false]
    | true => rw [h1 h, toneDelta_true]
  subst hdelta
  refine ⟨audioOn Config.params s, exec_audiotick_on hon htone hvol, nextSin_toInt _ _ _ _,
    nextCos_toInt _ _ _ _, fun shift hshift => ?_, rfl⟩
  rw [← volShift_of_add_eq hshift]
  exact pwmSample_toNat _ _ _

/-- Settles O45: the OFF arm writes constants, and the initial cosine survives the signed register. -/
theorem audiotickOffResetsThePhase : Obligations.AudiotickOffResetsThePhase :=
  fun s hoff => ⟨audioOff Config.params s, exec_audiotick_off hoff, rfl, cosInit_toInt Config.params, rfl, rfl⟩

end Sys2Proof.Machine
end

section
/-! PROOFS. `RESET`, and the `POLL` after it (45_system_ops.md R200; 70_reset_and_hazards.md R233, R236). -/

namespace Sys2Proof.Machine

theorem exec_reset (s : State) :
    exec .reset s = .next (resetWith Config.params (Config.leftByReset s.freeCtr) s) := rfl

/-- A `POLL` whose configuration is not written is refused (70_reset_and_hazards.md R236). -/
theorem exec_pollOp_refused {x : Samples} {s : State} (h : ¬ s.PollConfigured) :
    exec (pollOp x) s = .refused .pollConfigUnwritten := by
  rw [exec_pollOp]
  rcases pollWith_cases Config.params x s with ⟨hconf, _⟩ | ⟨_, hrefused⟩
  · exact absurd hconf h
  · exact hrefused

/-- Whatever `RESET` leaves in `mode`, its written-bit is 0 (R200). -/
theorem not_pollConfigured_resetWith (p : Params) (l : LeftByReset) (s : State) :
    ¬ (resetWith p l s).PollConfigured := by
  rintro ⟨hmodeW, _⟩
  exact Bool.false_ne_true hmodeW

theorem Flags.clear_bits : Flags.clear.bits = 0 := by decide

/-- Settles O12: `RESET` is `resetWith` of any free values, and the written-bits it clears refuse the next `POLL`. -/
theorem resetOperationResult : Obligations.ResetOperationResult := by
  intro s
  have hpoll (x : Samples) :=
    exec_pollOp_refused (x := x) (not_pollConfigured_resetWith Config.params (Config.leftByReset s.freeCtr) s)
  refine ⟨_, exec_reset s, ?_⟩
  simp [Flags.clear_bits, cosInit_toInt, sentinel, pwmMid, hpoll]

end Sys2Proof.Machine
end

section
/-! PROOFS. The values at reset exit, and the refusals on unwritten configuration (70_reset_and_hazards.md R231, R236). -/

namespace Sys2Proof.Machine

/-! ### The state at reset exit -/

/-- Settles O11: `COS_INIT` is below 128, so the cosine register reads back as `COS_INIT`; every other value is the
one written in `State.reset`. -/
theorem resetStateHoldsTheSpecValues : Obligations.ResetStateHoldsTheSpecValues :=
  ⟨rfl, Flags.clear_bits, rfl, rfl, rfl, cosInit_toInt Config.params, rfl, rfl, rfl, rfl, rfl, rfl, rfl, rfl, rfl⟩

/-! ### Who is refused, and why -/

/-- Without its configuration an arm's own row is refused before the arm is selected (R236). -/
theorem exec_armOp_refused {x : Samples} {s : State} (arm : Arm) (h : ¬ s.PollConfigured) :
    exec (armOp arm x) s = .refused .pollConfigUnwritten := by
  rw [exec_armOp]
  rcases armWith_cases Config.params arm x s with ⟨hconf, _⟩ | ⟨hconf, _⟩ | ⟨_, hrefused⟩
  · exact absurd hconf h
  · exact absurd hconf h
  · exact hrefused

/-- With the key down `AUDIOTICK` is refused while `tone` or `vol` is unwritten (R236). -/
theorem exec_audiotick_refused {s : State} (htx : s.tx = true) (h : ¬ (s.toneW = true ∧ s.volW = true)) :
    exec .audiotick s = .refused .audioConfigUnwritten := by
  rcases audiotickWith_cases Config.params s with ⟨hoff, _⟩ | ⟨_, htone, hvol, _⟩ | ⟨_, _, hrefused⟩
  · exact absurd (hoff.symm.trans htx) Bool.false_ne_true
  · exact absurd ⟨htone, hvol⟩ h
  · exact hrefused

/-- The tick source and the host are refused only for an operand out of range (40_timing_profile_config.md R110,
R118). -/
theorem refusal_of_tick_or_host {i : Instr} {s : State} {r : Refusal}
    (hagent : agentOf i = .msTick ∨ agentOf i = .host) (h : exec i s = .refused r) :
    (∃ n, r = .wpmOutOfRange n) ∨ (∃ v, r = .volOutOfRange v) := by
  cases i with
  | setwpm n =>
    rcases execSetwpm_cases n s with ⟨_, _, e⟩ | ⟨_, e⟩
    · cases e.symm.trans h
    · exact .inl ⟨n, Host.Outcome.refused.inj (h.symm.trans e)⟩
  | setvol v =>
    rcases setvolWith_cases Config.params v s with ⟨_, e⟩ | ⟨_, e⟩
    · cases e.symm.trans h
    · exact .inr ⟨v, Host.Outcome.refused.inj (h.symm.trans e)⟩
  | mstick | setmode | setswap | settone | setrec | reset => cases h
  | poll | audiotick | pollStraight | pollIdle | pollEval | pollSend | pollIeg | pollLgap | pollWgap =>
    simp [agentOf] at hagent

/-- Settles O31: `POLL` and the arms fall to their configuration, `AUDIOTICK` to `tone` and `vol` with the key down,
and the other two agents have no refusal but for an operand out of range. -/
theorem unwrittenConfigurationIsRefused : Obligations.UnwrittenConfigurationIsRefused := by
  intro s x
  refine ⟨fun hconf => ⟨exec_pollOp_refused hconf, fun arm => exec_armOp_refused arm hconf⟩,
    fun hconf => ⟨_, (exec_pollOp_next hconf).1⟩, exec_audiotick_refused,
    fun htx htone hvol => ⟨_, exec_audiotick_on htx htone hvol⟩, fun htx => ⟨_, exec_audiotick_off htx⟩,
    fun i hagent => ⟨fun h => ?_, fun h => ?_⟩⟩
  all_goals rcases refusal_of_tick_or_host hagent h with ⟨_, hr⟩ | ⟨_, hr⟩ <;> cases hr

end Sys2Proof.Machine
end

section
/-! PROOFS. Encoding and decoding undo each other (30_encoding.md R80 to R84, R89, R97). -/

namespace Sys2Proof

open Sys2Proof.Machine

/-! ### A word and its two fields -/

@[simp] theorem opcField_opWord (opc : BitVec 4) (arg : BitVec 12) : opcField (opWord opc arg) = opc := by
  refine BitVec.eq_of_getLsbD_eq fun i hi => ?_
  rw [opcField_getLsbD _ hi, opWord, BitVec.getLsbD_append, if_neg (by omega), Nat.add_sub_cancel_left]

@[simp] theorem argField_opWord (opc : BitVec 4) (arg : BitVec 12) : argField (opWord opc arg) = arg := by
  refine BitVec.eq_of_getLsbD_eq fun i hi => ?_
  rw [argField_getLsbD _ hi, opWord, BitVec.getLsbD_append, if_pos hi]

theorem opWord_fields (w : OpWord) : opWord (opcField w) (argField w) = w := by
  refine BitVec.eq_of_getLsbD_eq fun i hi => ?_
  rw [opWord, BitVec.getLsbD_append]
  split
  · next harg => exact argField_getLsbD w harg
  · rw [opcField_getLsbD w (by omega), show 12 + (i - 12) = i by omega]

/-! ### An operand of `lo` bits, and the must-be-zero bits above it -/

/-- An `arg` that holds an operand of `lo` bits and nothing else passes the must-be-zero test (R87). -/
@[simp] theorem argZeroFrom_opWord_setWidth (opc : BitVec 4) {lo : Nat} (x : BitVec lo) :
    argZeroFrom lo (opWord opc (x.setWidth 12)) = true := by
  refine (argZeroFrom_iff lo _).mpr fun b hlo hb => ?_
  rw [← argField_getLsbD _ hb, argField_opWord, BitVec.getLsbD_setWidth, BitVec.getLsbD_of_ge x b hlo, Bool.and_false]

/-- The operand is read back from its `arg`. -/
@[simp] theorem extractLsb'_setWidth_arg {lo : Nat} (hlo : lo ≤ 12) (x : BitVec lo) :
    (x.setWidth 12).extractLsb' 0 lo = x := by
  refine BitVec.eq_of_getLsbD_eq fun i hi => ?_
  simp [hi, show i < 12 by omega]

/-- An `arg` that passes the must-be-zero test holds its low `lo` bits and nothing else (R87). -/
theorem argField_eq_setWidth {lo : Nat} {w : OpWord} (hz : argZeroFrom lo w = true) :
    argField w = ((argField w).extractLsb' 0 lo).setWidth 12 := by
  refine BitVec.eq_of_getLsbD_eq fun i hi => ?_
  by_cases hlo : i < lo
  · simp [hi, hlo]
  · simp [hlo, argField_getLsbD w hi, (argZeroFrom_iff lo w).mp hz i (by omega) hi]

/-- A word of opcode `k` that passes the must-be-zero test is made of `k` and its operand. -/
theorem opWord_operand {lo k : Nat} {w : OpWord} (hk : (opcField w).toNat = k) (hz : argZeroFrom lo w = true) :
    opWord (BitVec.ofNat 4 k) (((argField w).extractLsb' 0 lo).setWidth 12) = w := by
  rw [← argField_eq_setWidth hz, ← hk, BitVec.ofNat_toNat, BitVec.setWidth_eq, opWord_fields]

/-! ### The operand forms -/

theorem mode_ofCode_code (m : Mode) : Mode.ofCode m.code = m := by
  cases m <;> rfl

@[simp] theorem argByte_opWord (opc : BitVec 4) (n : Byte) : argByte (opWord opc (n.setWidth 12)) = n := by
  rw [argByte, argField_opWord, extractLsb'_setWidth_arg (by decide)]

@[simp] theorem bitArg_getElem (b : Bool) : (bitArg b)[0] = b := by
  cases b <;> rfl

theorem bitArg_eq_setWidth (x : BitVec 1) : bitArg x[0] = x.setWidth 12 := by
  revert x; decide

/-- The samples of a `POLL` are `arg[3:0]`, `a1` lowest (R82). -/
theorem sampleArg_getElem (a1 a2 b1 b2 : Bool) :
    (sampleArg a1 a2 b1 b2)[0] = a1 ∧ (sampleArg a1 a2 b1 b2)[1] = a2 ∧ (sampleArg a1 a2 b1 b2)[2] = b1 ∧
      (sampleArg a1 a2 b1 b2)[3] = b2 := by
  revert a1 a2 b1 b2; decide

theorem sampleArg_eq_setWidth (x : BitVec 4) : sampleArg x[0] x[1] x[2] x[3] = x.setWidth 12 := by
  revert x; decide

/-! ### The obligations -/

/-- Settles O2: each row's word has its opcode, its must-be-zero bits and an operand that reads back. -/
theorem decodeEncodeRoundTrip : Obligations.DecodeEncodeRoundTrip := by
  intro i hwf
  cases i with
  | poll a1 a2 b1 b2 =>
    obtain ⟨ha1, ha2, hb1, hb2⟩ := sampleArg_getElem a1 a2 b1 b2
    have hz : argZeroFrom 4 (opWord 1#4 (sampleArg a1 a2 b1 b2)) = true := argZeroFrom_opWord_setWidth 1#4 _
    simp [decode, encode, hz, ha1, ha2, hb1, hb2]
  | setwpm n => simp [decode, encode]
  | setvol v => simp [decode, encode]
  | setmode m => simp [decode, encode, mode_ofCode_code]
  | setswap b | settone b | setrec b =>
    have hz (opc : BitVec 4) : argZeroFrom 1 (opWord opc (bitArg b)) = true := argZeroFrom_opWord_setWidth opc _
    simp [decode, encode, hz]
  | mstick | audiotick | reset => decide
  | pollStraight | pollIdle | pollEval | pollSend | pollIeg | pollLgap | pollWgap => cases hwf

/-- Settles O3: a word that decodes is made of its opcode and the operand that was read. -/
theorem decodedWordEncodesBack : Obligations.DecodedWordEncodesBack := by
  intro w i h
  unfold decode at h
  split at h
  case h_11 => cases h
  all_goals
    next hk =>
    split at h
    · next hz =>
      cases h
      refine ⟨rfl, ?_⟩
      have hw := opWord_operand hk hz
      simpa [encode, argByte, mode_code_ofCode, ← sampleArg_eq_setWidth, ← bitArg_eq_setWidth] using hw
    · cases h

/-- Settles O1: every word of the list is decoded. -/
theorem specWordsDecodeAsWritten : Obligations.SpecWordsDecodeAsWritten := by
  unfold Obligations.SpecWordsDecodeAsWritten
  decide

/-- Settles O6: an arm is encoded as `POLL` is, and O2 decodes that word. -/
theorem armsShareThePollWord : Obligations.ArmsShareThePollWord := by
  intro arm x
  have hword : encode (armOp arm x) = encode (pollOp x) := by cases arm <;> rfl
  exact ⟨hword, hword ▸ decodeEncodeRoundTrip (pollOp x) rfl⟩

end Sys2Proof
end

section
/-! PROOFS. Everything a `POLL` can do, one next state per branch of the sequencer (42_keyer_fsm.md R140 to R149). -/

namespace Sys2Proof.Machine

/-- A `POLL` with samples `x` outside Straight mode leads from `s` to the given state: one constructor per branch of
R144 to R149, with what selects it. -/
inductive SequencedMove (p : Params) (x : Samples) (s : State) : State → Prop where
  /-- `Idle` finds a key (R144). -/
  | idleKey (hk : s.kstate = .idle) (hp : x.Pressed) : SequencedMove p x s { paddleRead x s with kstate := .eval }
  /-- `Idle` finds none (R144). -/
  | idleQuiet (hk : s.kstate = .idle) (hp : ¬ x.Pressed) :
      SequencedMove p x s { s with flags := Flags.clear, maddr := sentinel }
  /-- `Eval` chooses an element; of the flags it writes `WASDIT` alone (R145). -/
  | element (hk : s.kstate = .eval) (sym : Symbol) (b : Bool) :
      SequencedMove p x s (elementStarted sym { s.flags with wasdit := b } s)
  /-- `Eval` chooses none (R145). -/
  | noElement (hk : s.kstate = .eval) (hsqz : s.flags.sqz = false) (heq : s.flags.dit = s.flags.dah) :
      SequencedMove p x s { s with kstate := .idle }
  /-- The element, or the gap after it, is not over (R146, R147). -/
  | waiting (hk : s.kstate = .send ∨ s.kstate = .ieg) (hwait : s.tick.toNat ≤ s.ktimer.toNat) : SequencedMove p x s s
  /-- The element is over (R146). -/
  | keyUp (hk : s.kstate = .send) (hpassed : s.ktimer.toNat < s.tick.toNat) :
      SequencedMove p x s { s with tx := false, ktimer := deadline s.tick s.profile.tIeg, kstate := .ieg }
  /-- The gap is over and the Iambic-B memory sends its element (R147). -/
  | memory (hk : s.kstate = .ieg) (hpassed : s.ktimer.toNat < s.tick.toNat) (hmode : s.mode = .iambicB)
      (hsqz : s.flags.sqz = true) :
      SequencedMove p x s (elementStarted (symbolSaid (useSqueeze s.flags)) (useSqueeze s.flags) s)
  /-- The gap is over and the memory is empty (R147). -/
  | letterGap (hk : s.kstate = .ieg) (hpassed : s.ktimer.toNat < s.tick.toNat)
      (hnone : ¬ (s.mode = .iambicB ∧ s.flags.sqz = true)) :
      SequencedMove p x s { s with ktimer := deadline s.tick s.profile.tLgapDec, kstate := .lgap }
  /-- A key found before the letter or word gap is over (R148, R149). -/
  | gapKey (hk : s.kstate = .lgap ∨ s.kstate = .wgap) (hwait : s.tick.toNat ≤ s.ktimer.toNat) (hp : x.Pressed) :
      SequencedMove p x s { paddleRead x s with kstate := .eval }
  /-- No key found before the letter or word gap is over (R148, R149). -/
  | gapQuiet (hk : s.kstate = .lgap ∨ s.kstate = .wgap) (hwait : s.tick.toNat ≤ s.ktimer.toNat) (hp : ¬ x.Pressed) :
      SequencedMove p x s (paddleRead x s)
  /-- The letter is over (R148). -/
  | letterEnd (hk : s.kstate = .lgap) (hpassed : s.ktimer.toNat < s.tick.toNat) :
      SequencedMove p x s { s with
        trace := s.trace ++ resolveEvents p s.maddr s.record, maddr := sentinel, flags := Flags.clear
        ktimer := deadline s.tick s.profile.tWgapDec, kstate := .wgap }
  /-- The word is over (R149). -/
  | wordEnd (hk : s.kstate = .wgap) (hpassed : s.ktimer.toNat < s.tick.toNat) :
      SequencedMove p x s { s with
        trace := s.trace ++ [.word], maddr := sentinel, flags := Flags.clear, kstate := .idle }

theorem sequencedMove_readForEval (p : Params) (x : Samples) {s : State} (hk : s.kstate = .lgap ∨ s.kstate = .wgap)
    (hwait : s.tick.toNat ≤ s.ktimer.toNat) : SequencedMove p x s (readForEval x s) := by
  rcases readForEval_cases x s with ⟨hp, e⟩ | ⟨hp, e⟩ <;> rw [e]
  · exact .gapKey hk hwait hp
  · exact .gapQuiet hk hwait hp

/-- Outside Straight mode the selected arm makes one of these moves. -/
theorem sequencedMove_runArm (p : Params) (x : Samples) {s : State} (hmode : s.mode ≠ .straight) :
    SequencedMove p x s (runArm p (selectArm s.mode s.kstate) x s) := by
  rw [selectArm_sequenced hmode]
  cases hk : s.kstate with
  | idle =>
    change SequencedMove p x s (armIdle x s)
    rcases armIdle_cases x s with ⟨hp, e⟩ | ⟨hp, e⟩ <;> rw [e]
    · exact .idleKey hk hp
    · exact .idleQuiet hk hp
  | eval =>
    change SequencedMove p x s (armEval s)
    rcases armEval_cases s with ⟨sym, b, e⟩ | ⟨hsqz, heq, e⟩ <;> rw [e]
    · exact .element hk sym b
    · exact .noElement hk hsqz heq
  | send =>
    change SequencedMove p x s (armSend s)
    rcases armSend_cases s with ⟨hpassed, e⟩ | ⟨hwait, e⟩ <;> rw [e]
    · exact .keyUp hk hpassed
    · exact .waiting (.inl hk) hwait
  | ieg =>
    change SequencedMove p x s (armIeg s)
    rcases armIeg_cases s with ⟨hpassed, hb, hsqz, e⟩ | ⟨hpassed, hnone, e⟩ | ⟨hwait, e⟩ <;> rw [e]
    · exact .memory hk hpassed hb hsqz
    · exact .letterGap hk hpassed hnone
    · exact .waiting (.inr hk) hwait
  | lgap =>
    change SequencedMove p x s (armLgap p x s)
    rcases armLgap_cases p x s with ⟨hpassed, e⟩ | ⟨hwait, e⟩ <;> rw [e]
    · exact .letterEnd hk hpassed
    · exact sequencedMove_readForEval p x (.inl hk) hwait
  | wgap =>
    change SequencedMove p x s (armWgap x s)
    rcases armWgap_cases x s with ⟨hpassed, e⟩ | ⟨hwait, e⟩ <;> rw [e]
    · exact .wordEnd hk hpassed
    · exact sequencedMove_readForEval p x (.inr hk) hwait

/-- Everything the arm that a state selects can do. -/
theorem runArm_selected_cases (p : Params) (x : Samples) (s : State) :
    (s.mode = .straight ∧ runArm p (selectArm s.mode s.kstate) x s = armStraight x s) ∨
      (s.mode ≠ .straight ∧ SequencedMove p x s (runArm p (selectArm s.mode s.kstate) x s)) := by
  by_cases hmode : s.mode = .straight
  · exact .inl ⟨hmode, by rw [hmode]; rfl⟩
  · exact .inr ⟨hmode, sequencedMove_runArm p x hmode⟩

/-- Everything a `POLL` that goes on can do. -/
theorem exec_pollOp_next_cases {x : Samples} {s t : State} (h : exec (pollOp x) s = .next t) :
    s.PollConfigured ∧ ((s.mode = .straight ∧ t = armStraight x s) ∨
      (s.mode ≠ .straight ∧ SequencedMove Config.params x s t)) := by
  obtain ⟨hconf, rfl⟩ := runArm_of_exec_pollOp h
  exact ⟨hconf, runArm_selected_cases Config.params x s⟩

/-- Everything that `POLL` and the rows of its arms can do when they go on. -/
theorem exec_pollLoop_next_cases {i : Instr} {s t : State} (hagent : agentOf i = .pollLoop)
    (h : exec i s = .next t) :
    s.PollConfigured ∧ ∃ x, (s.mode = .straight ∧ t = armStraight x s) ∨
      (s.mode ≠ .straight ∧ SequencedMove Config.params x s t) := by
  rcases exec_next_cases h with ⟨_, hconf, x, rfl⟩ | ⟨rfl, _⟩ | ⟨rfl, _⟩ | ⟨rfl, _⟩ | ⟨_, rfl, _⟩ | ⟨_, rfl, _⟩ |
    ⟨_, rfl, _⟩ | ⟨_, rfl, _⟩ | ⟨_, rfl, _⟩ | ⟨_, rfl, _⟩ | ⟨rfl, _⟩
  · exact ⟨hconf, x, runArm_selected_cases Config.params x s⟩
  all_goals cases hagent

end Sys2Proof.Machine
end

section
/-! PROOFS. The machine invariant: at reset, and kept by every step (10_state.md R28, R33, R34). -/

namespace Sys2Proof.Machine

/-- One reading sets the squeeze flag only with both paddles (41_paddle_reader_tick.md R131). -/
theorem readerFlags_squeeze {d h : Bool} {f : Flags} (hsqz : (readerFlags d h f).sqz = true) :
    (readerFlags d h f).dit = true ∧ (readerFlags d h f).dah = true :=
  Bool.and_eq_true_iff.mp hsqz

theorem State.Inv.armStraight {s : State} (h : s.Inv) (x : Samples) : (armStraight x s).Inv :=
  { h with squeeze := readerFlags_squeeze }

/-- No branch of the sequencer breaks the invariant: each writes the flags of one reading, clears them, or keeps the
paddles; and only the end of a letter, which empties the address, enters the word gap. -/
theorem State.Inv.sequencedMove {p : Params} {x : Samples} {s t : State} (h : s.Inv) (m : SequencedMove p x s t) :
    t.Inv := by
  cases m with
  | idleKey | gapKey => exact { h with squeeze := readerFlags_squeeze, wordGap := nofun }
  | idleQuiet | letterEnd => exact { h with squeeze := nofun, wordGap := fun _ => rfl }
  | element | noElement | keyUp | letterGap => exact { h with wordGap := nofun }
  | waiting => exact h
  | memory => exact { h with squeeze := nofun, wordGap := nofun }
  | gapQuiet => exact { h with squeeze := readerFlags_squeeze }
  | wordEnd => exact { h with squeeze := nofun, wordGap := nofun }

/-- Every instruction keeps the invariant. -/
theorem State.Inv.exec {i : Instr} {s t : State} (h : s.Inv) (he : exec i s = .next t) : t.Inv := by
  rcases exec_next_cases he with ⟨_, _, x, rfl⟩ | ⟨_, rfl⟩ | ⟨_, _, rfl⟩ | ⟨_, _, _, _, rfl⟩ | ⟨n, _, ⟨hlo, hhi⟩, rfl⟩ |
    ⟨m, _, rfl⟩ | ⟨b, _, rfl⟩ | ⟨b, _, rfl⟩ | ⟨v, _, hv, rfl⟩ | ⟨b, _, rfl⟩ | ⟨_, rfl⟩
  · rcases runArm_selected_cases Config.params x s with ⟨_, e⟩ | ⟨_, m⟩
    · rw [e]; exact h.armStraight x
    · exact h.sequencedMove m
  · exact { h with }
  · exact { h with }
  · exact { h with }
  · exact { h with validProfile := rfl, speed := fun _ => ⟨hlo, hhi, rfl⟩ }
  · exact { h with }
  · exact { h with }
  · exact { h with }
  · exact { h with volume := fun _ => hv }
  · exact { h with }
  · exact ⟨nofun, nofun, rfl, nofun, nofun⟩

/-- Settles O54: a step takes a word off the schedule, which the invariant does not see, and executes it. -/
theorem invariantKeptByEveryStep : Obligations.InvariantKeptByEveryStep := by
  intro s t h hstep
  rcases step_cases s with ⟨_, e⟩ | ⟨_, _, _, _, e⟩ | ⟨_, rest, i, _, _, e⟩ <;> rw [e] at hstep
  · cases hstep; exact h
  · cases hstep
  · have hrest : State.Inv { s with schedule := rest } := { h with }
    exact hrest.exec hstep

/-- Settles O55: at reset no flag is set, the sequencer is in `Idle` and nothing is written. -/
theorem invariantHoldsAtReset : Obligations.InvariantHoldsAtReset :=
  ⟨⟨nofun, nofun, rfl, nofun, nofun⟩, by decide⟩

end Sys2Proof.Machine
end

section
/-! PROOFS. Registers nothing has written never influence a run (10_state.md R34;
70_reset_and_hazards.md R232, R236). -/

namespace Sys2Proof.Machine

/-! ### The procedures of the arms, on two states that agree on what is specified -/

section
variable {s s' : State}

theorem SameSpecified.paddleRead (h : SameSpecified s s') (hswap : s.swap = s'.swap) (x : Samples) :
    SameSpecified (paddleRead x s) (paddleRead x s') :=
  { h with
    flags := by simp [h.flags, hswap]
    trace := by simp [h.trace, hswap] }

/-- `Idle` and `Eval` read no deadline, so entering them asks nothing of `ktimer` (R232). -/
theorem SameSpecified.enterPrompt (h : SameSpecified s s') {k : KState} (hk : readsDeadline k = false) :
    SameSpecified { s with kstate := k } { s' with kstate := k } :=
  { h with
    kstate := rfl
    ktimer := fun hr => absurd (hk.symm.trans hr) Bool.false_ne_true }

theorem SameSpecified.enterSend (h : SameSpecified s s') (hprofile : s.profile = s'.profile) (sym : Symbol) :
    SameSpecified (enterSend sym s) (enterSend sym s') :=
  { h with
    tx := rfl
    kstate := rfl
    ktimer := fun _ => by simp [h.tick, hprofile]
    maddr := by simp [h.maddr] }

/-- An element starts alike from the same new flags. -/
theorem SameSpecified.startElement (h : SameSpecified s s') (hprofile : s.profile = s'.profile) (sym : Symbol)
    (f : Flags) :
    SameSpecified (Machine.enterSend sym { s with flags := f }) (Machine.enterSend sym { s' with flags := f }) :=
  have hf : SameSpecified { s with flags := f } { s' with flags := f } := { h with flags := rfl }
  hf.enterSend hprofile sym

theorem SameSpecified.readForEval (h : SameSpecified s s') (hswap : s.swap = s'.swap) (x : Samples) :
    SameSpecified (readForEval x s) (readForEval x s') := by
  have hread := h.paddleRead hswap x
  by_cases hp : x.Pressed
  · rw [readForEval_of_pressed s hp, readForEval_of_pressed s' hp]
    exact hread.enterPrompt rfl
  · rw [readForEval_of_not_pressed s hp, readForEval_of_not_pressed s' hp]
    exact hread

/-- Where the deadline is read, the two states agree on whether it has passed (R232). -/
theorem SameSpecified.deadlinePassed (h : SameSpecified s s') (hk : readsDeadline s.kstate = true) :
    deadlinePassed s'.tick s'.ktimer = deadlinePassed s.tick s.ktimer := by
  rw [h.tick, h.ktimer hk]

/-! ### The arms -/

theorem SameSpecified.armStraight (h : SameSpecified s s') (hswap : s.swap = s'.swap) (x : Samples) :
    SameSpecified (armStraight x s) (armStraight x s') :=
  { h.paddleRead hswap x with tx := congrArg keyFound (h.paddleRead hswap x).flags }

theorem SameSpecified.armIdle (h : SameSpecified s s') (hswap : s.swap = s'.swap) (x : Samples) :
    SameSpecified (armIdle x s) (armIdle x s') := by
  have hread := h.paddleRead hswap x
  unfold Machine.armIdle
  rw [← hread.flags]
  split
  · exact hread.enterPrompt rfl
  · exact { hread with flags := rfl, maddr := rfl }

theorem SameSpecified.armEval (h : SameSpecified s s') (hmode : s.mode = s'.mode) (hprofile : s.profile = s'.profile) :
    SameSpecified (armEval s) (armEval s') := by
  unfold Machine.armEval
  have hcond : (s'.mode = .ultimatic) = (s.mode = .ultimatic) := by rw [hmode]
  rw [← h.flags]
  simp only [hcond]
  split
  · split
    · exact h.enterSend hprofile _
    · exact h.startElement hprofile _ _
  · split
    · exact h.startElement hprofile _ _
    · split
      · exact h.startElement hprofile _ _
      · exact { h with flags := rfl, kstate := rfl, ktimer := nofun }

theorem SameSpecified.armSend (h : SameSpecified s s') (hk : s.kstate = .send) (hprofile : s.profile = s'.profile) :
    SameSpecified (armSend s) (armSend s') := by
  unfold Machine.armSend
  rw [h.deadlinePassed (by rw [hk]; rfl)]
  split
  · exact { h with tx := rfl, ktimer := fun _ => by simp [h.tick, hprofile], kstate := rfl }
  · exact h

theorem SameSpecified.armIeg (h : SameSpecified s s') (hk : s.kstate = .ieg) (hmode : s.mode = s'.mode)
    (hprofile : s.profile = s'.profile) : SameSpecified (armIeg s) (armIeg s') := by
  unfold Machine.armIeg
  have hcond : (s'.mode = .iambicB ∧ s'.flags.sqz = true) = (s.mode = .iambicB ∧ s.flags.sqz = true) := by
    rw [hmode, h.flags]
  rw [h.deadlinePassed (by rw [hk]; rfl)]
  simp only [hcond]
  split
  · split
    · rw [← h.flags]
      exact h.startElement hprofile _ _
    · exact { h with ktimer := fun _ => by simp [h.tick, hprofile], kstate := rfl }
  · exact h

theorem SameSpecified.armLgap (h : SameSpecified s s') (hk : s.kstate = .lgap) (hswap : s.swap = s'.swap)
    (hprofile : s.profile = s'.profile) (hrecord : s.record = s'.record) (p : Params) (x : Samples) :
    SameSpecified (armLgap p x s) (armLgap p x s') := by
  unfold Machine.armLgap
  rw [h.deadlinePassed (by rw [hk]; rfl)]
  split
  · exact { h with
      flags := rfl, ktimer := fun _ => by simp [h.tick, hprofile], kstate := rfl, maddr := rfl
      trace := by simp [h.trace, h.maddr, hrecord] }
  · exact h.readForEval hswap x

theorem SameSpecified.armWgap (h : SameSpecified s s') (hk : s.kstate = .wgap) (hswap : s.swap = s'.swap)
    (x : Samples) : SameSpecified (armWgap x s) (armWgap x s') := by
  unfold Machine.armWgap
  rw [h.deadlinePassed (by rw [hk]; rfl)]
  split
  · exact { h with
      flags := rfl, ktimer := nofun, kstate := rfl, maddr := rfl
      trace := by simp [h.trace] }
  · exact h.readForEval hswap x

/-- What R236 asks to be written covers every register that the selected arm reads. -/
theorem SameSpecified.runArm (h : SameSpecified s s') (hconf : s.PollConfigured) (p : Params) (x : Samples) :
    SameSpecified (runArm p (selectArm s.mode s.kstate) x s) (runArm p (selectArm s.mode s.kstate) x s') := by
  obtain ⟨hmodeW, hswapW, hwritten⟩ := hconf
  have hswap := h.swap hswapW
  have hmode := h.mode hmodeW
  by_cases hm : s.mode = .straight
  · rw [hm]
    exact h.armStraight hswap x
  obtain ⟨hprofValid, hrecW⟩ := hwritten hm
  have hprofile := h.profile hprofValid
  rw [selectArm_sequenced hm]
  cases hk : s.kstate with
  | idle => exact h.armIdle hswap x
  | eval => exact h.armEval hmode hprofile
  | send => exact h.armSend hk hprofile
  | ieg => exact h.armIeg hk hmode hprofile
  | lgap => exact h.armLgap hk hswap hprofile (h.record hrecW) p x
  | wgap => exact h.armWgap hk hswap x

/-! ### What is refused, and which arm is selected -/

theorem SameSpecified.pollReady (h : SameSpecified s s') : pollReady s = pollReady s' := by
  cases hw : s.modeW with
  | false => simp [Machine.pollReady, hw, ← h.modeW]
  | true => simp [Machine.pollReady, ← h.modeW, ← h.swapW, ← h.mode hw, ← h.profValid, ← h.recW]

theorem SameSpecified.selectArm (h : SameSpecified s s') (hconf : s.PollConfigured) :
    selectArm s'.mode s'.kstate = selectArm s.mode s.kstate := by
  rw [h.mode hconf.1, h.kstate]

end

/-! ### Outcomes -/

/-- Two outcomes that are refused together, or go on to two states that agree on what is specified. -/
def SameOutcome (o o' : Host.Outcome State Fault Refusal) : Prop :=
  (∀ t, o = .next t → ∃ t', o' = .next t' ∧ SameSpecified t t') ∧ (∀ r, o = .refused r → o' = .refused r)

theorem sameOutcome_next {t t' : State} (h : SameSpecified t t') : SameOutcome (.next t) (.next t') :=
  ⟨fun _ e => ⟨t', rfl, Host.Outcome.next.inj e ▸ h⟩, fun _ e => by cases e⟩

theorem sameOutcome_refused (r : Refusal) : SameOutcome (.refused r) (.refused r) :=
  ⟨fun _ e => (by cases e), fun _ e => e⟩

section
variable {s s' : State} (h : SameSpecified s s') (p : Params)
include h

theorem SameSpecified.pollWith (x : Samples) : SameOutcome (pollWith p x s) (pollWith p x s') := by
  unfold Machine.pollWith
  rw [← h.pollReady]
  split
  · next hready =>
    have hconf := (pollReady_iff s).mp hready
    rw [h.selectArm hconf]
    exact sameOutcome_next (h.runArm hconf p x)
  · exact sameOutcome_refused _

theorem SameSpecified.armWith (arm : Arm) (x : Samples) : SameOutcome (armWith p arm x s) (armWith p arm x s') := by
  unfold Machine.armWith
  rw [← h.pollReady]
  split
  · next hready =>
    have hconf := (pollReady_iff s).mp hready
    rw [h.selectArm hconf]
    split
    · next harm => exact sameOutcome_next (harm ▸ h.runArm hconf p x)
    · exact sameOutcome_refused _
  · exact sameOutcome_refused _

theorem SameSpecified.audiotickWith : SameOutcome (audiotickWith p s) (audiotickWith p s') := by
  unfold Machine.audiotickWith
  rw [← h.tx, ← h.toneW, ← h.volW]
  split
  · split
    · next hready =>
      obtain ⟨htone, hvol⟩ := Bool.and_eq_true_iff.mp hready
      refine sameOutcome_next { h with sinv := ?_, cosv := ?_, pwm := ?_ } <;>
        simp [h.tone htone, h.vol hvol, h.sinv, h.cosv]
    · exact sameOutcome_refused _
  · exact sameOutcome_next { h with sinv := rfl, cosv := rfl, pwm := rfl }

theorem SameSpecified.execSetwpm (n : Byte) : SameOutcome (execSetwpm n s) (execSetwpm n s') := by
  unfold Machine.execSetwpm
  split
  · exact sameOutcome_next { h with
      wpm := fun _ => rfl, profile := fun _ => rfl, wpmW := rfl, profValid := rfl }
  · exact sameOutcome_refused _

theorem SameSpecified.setvolWith (v : Byte) : SameOutcome (setvolWith p v s) (setvolWith p v s') := by
  unfold Machine.setvolWith
  split
  · exact sameOutcome_refused _
  · exact sameOutcome_next { h with vol := fun _ => rfl, volW := rfl }

/-- `RESET` takes its free values where the counter of each state stands; its written-bits and `Idle` hide them all. -/
theorem SameSpecified.resetWith (l l' : LeftByReset) : SameSpecified (resetWith p l s) (resetWith p l' s') :=
  { h with
    kstate := rfl, flags := rfl, ktimer := nofun, tx := rfl, maddr := rfl, sinv := rfl, cosv := rfl, pwm := rfl
    profValid := rfl, profile := nofun, wpmW := rfl, wpm := nofun, modeW := rfl, mode := nofun
    swapW := rfl, swap := nofun, toneW := rfl, tone := nofun, volW := rfl, vol := nofun, recW := rfl, record := nofun }

/-- Every instruction answers two such states alike. -/
theorem SameSpecified.exec (i : Instr) : SameOutcome (exec i s) (exec i s') := by
  cases i with
  | poll a1 a2 b1 b2 => exact h.pollWith _ ⟨a1, a2, b1, b2⟩
  | mstick => exact sameOutcome_next { h with tick := by rw [h.tick] }
  | audiotick => exact h.audiotickWith _
  | setwpm n => exact h.execSetwpm n
  | setmode => exact sameOutcome_next { h with mode := fun _ => rfl, modeW := rfl }
  | setswap => exact sameOutcome_next { h with swap := fun _ => rfl, swapW := rfl }
  | settone => exact sameOutcome_next { h with tone := fun _ => rfl, toneW := rfl }
  | setvol v => exact h.setvolWith _ v
  | setrec => exact sameOutcome_next { h with record := fun _ => rfl, recW := rfl }
  | reset => exact sameOutcome_next (h.resetWith _ _ _)
  | pollStraight a1 a2 b1 b2 | pollIdle a1 a2 b1 b2 | pollEval a1 a2 b1 b2 | pollSend a1 a2 b1 b2
  | pollIeg a1 a2 b1 b2 | pollLgap a1 a2 b1 b2 | pollWgap a1 a2 b1 b2 => exact h.armWith _ _ ⟨a1, a2, b1, b2⟩

end

/-- Settles O57: no operation reads a register before it is written, and no write of one depends on another. -/
theorem unspecifiedRegistersNeverShow : Obligations.UnspecifiedRegistersNeverShow :=
  fun i _ _ h => h.exec i

end Sys2Proof.Machine
end

section
/-! PROOFS. A step executes the head of the schedule, and what an operation leaves alone (20_memory.md R66, R67;
60_exceptions.md R216). -/

namespace Sys2Proof.Machine

/-! ### Steps -/

/-- A decoded word at the head of the schedule is taken off and executed (20_memory.md R66). -/
theorem step_of_decode {s : State} {w : OpWord} {rest : List OpWord} {i : Instr} (hs : s.schedule = w :: rest)
    (hd : decode w = some i) : step s = exec i { s with schedule := rest } := by
  simp [step, fetch, hs, hd]

/-- Settles O8: by what the schedule holds. -/
theorem stepRunsTheDecodedOperation : Obligations.StepRunsTheDecodedOperation :=
  ⟨fun _ _ _ _ => step_of_decode, fun s hs => by simp [step, fetch, hs]⟩

theorem decode_tableWord {nbits w : Nat} {i : Instr} (h : decodeTableWord nbits w = some i) :
    decode (tableWord nbits w) = some i := by
  unfold decodeTableWord at h
  split at h
  · exact h
  · cases h

/-- Settles O9: the word in front is taken off again, which leaves the state as it was. -/
theorem fetchWordRunsNext : Obligations.FetchWordRunsNext :=
  fun s w _ h => step_of_decode (s := s.withFetchWord 16 w) rfl (decode_tableWord h)

/-! ### What an operation leaves alone -/

/-- Settles O10: no operation has `schedule` among the fields it writes, and `RESET` alone writes the counter. -/
theorem executionLeavesTheScheduleAlone : Obligations.ExecutionLeavesTheScheduleAlone := by
  intro i s t h
  rcases exec_next_cases h with ⟨_, _, x, rfl⟩ | ⟨_, rfl⟩ | ⟨_, _, rfl⟩ | ⟨_, _, _, _, rfl⟩ | ⟨_, _, _, rfl⟩ |
    ⟨_, _, rfl⟩ | ⟨_, _, rfl⟩ | ⟨_, _, rfl⟩ | ⟨_, _, _, rfl⟩ | ⟨_, _, rfl⟩ | ⟨hreset, rfl⟩
  · obtain ⟨k, f, d, b, a, tr, e⟩ := runArm_frame Config.params (selectArm s.mode s.kstate) x s
    rw [e]
    exact ⟨rfl, fun _ => rfl⟩
  rotate_right
  · exact ⟨rfl, fun h => absurd hreset h⟩
  all_goals exact ⟨rfl, fun _ => rfl⟩

/-- Settles O51: by the agent of the operation, whose registers are the only ones its next state changes. -/
theorem eachContextWritesOnlyItsRegisters : Obligations.EachContextWritesOnlyItsRegisters := by
  intro i s t h hreset
  rcases exec_next_cases h with ⟨hagent, _, x, rfl⟩ | ⟨rfl, rfl⟩ | ⟨rfl, _, rfl⟩ | ⟨rfl, _, _, _, rfl⟩ |
    ⟨_, rfl, _, rfl⟩ | ⟨_, rfl, rfl⟩ | ⟨_, rfl, rfl⟩ | ⟨_, rfl, rfl⟩ | ⟨_, rfl, _, rfl⟩ | ⟨_, rfl, rfl⟩ | ⟨hr, _⟩
  · obtain ⟨k, f, d, b, a, tr, e⟩ := runArm_frame Config.params (selectArm s.mode s.kstate) x s
    rw [e]
    simp [hagent]
  rotate_right
  · exact absurd hr hreset
  all_goals simp [agentOf]

/-- Only a poll emits (00_scope.md R11). -/
theorem exec_trace_of_not_pollLoop {i : Instr} {s t : State} (hagent : agentOf i ≠ .pollLoop)
    (h : exec i s = .next t) : t.trace = s.trace := by
  rcases exec_next_cases h with ⟨hpoll, _⟩ | ⟨_, rfl⟩ | ⟨_, _, rfl⟩ | ⟨_, _, _, _, rfl⟩ | ⟨_, _, _, rfl⟩ |
    ⟨_, _, rfl⟩ | ⟨_, _, rfl⟩ | ⟨_, _, rfl⟩ | ⟨_, _, _, rfl⟩ | ⟨_, _, rfl⟩ | ⟨_, rfl⟩
  · exact absurd hpoll hagent
  all_goals rfl

/-! ### The two interrupts -/

theorem exec_mstick (s : State) : exec .mstick s = .next { s with tick := wrap32 (s.tick.toNat + 1) } := rfl

/-- Settles O53: `AUDIOTICK` takes the same arm, or is refused, whatever `tick` holds, and writes no field that `MSTICK`
reads. -/
theorem theTwoInterruptsCommute : Obligations.TheTwoInterruptsCommute := by
  intro s
  cases htx : s.tx with
  | false => simp [execAll, exec_mstick, exec_audiotick_off, htx, audioOff]
  | true =>
    by_cases hready : s.toneW = true ∧ s.volW = true
    · obtain ⟨htone, hvol⟩ := hready
      simp [execAll, exec_mstick, exec_audiotick_on, htx, htone, hvol, audioOn]
    · simp [execAll, exec_mstick, exec_audiotick_refused, htx, hready]

/-! ### The configuration operations -/

/-- Settles O17: neither operation has a refusal, and each writes its register and its mark alone. -/
theorem settoneAndSetrecWriteOneRegister : Obligations.SettoneAndSetrecWriteOneRegister :=
  fun _ => ⟨fun _ => rfl, fun _ => rfl⟩

/-- A new speed leaves a sequenced machine sequenced (70_reset_and_hazards.md R236). -/
theorem State.Sequenced.setwpm {s : State} (h : s.Sequenced) (n : Byte) :
    State.Sequenced { s with wpm := n, profile := profileOf n.toNat, wpmW := true, profValid := true } := by
  obtain ⟨⟨hmodeW, hswapW, hwritten⟩, hmode⟩ := h
  exact ⟨⟨hmodeW, hswapW, fun _ => ⟨rfl, (hwritten hmode).2⟩⟩, hmode⟩

/-- Settles O19: the host owns none of those registers (O51) and emits nothing; `POLL` then tests the deadline it
finds, and times the gap with the profile it finds. -/
theorem configurationLeavesTheKeyerAlone : Obligations.ConfigurationLeavesTheKeyerAlone := by
  refine ⟨fun i s t hagent hreset h => ?_, fun s t n x hseq hk h => ?_⟩
  · obtain ⟨hms, hpoll, haudio, _⟩ := eachContextWritesOnlyItsRegisters i s t h hreset
    obtain ⟨hkstate, hflags, hktimer, hmaddr, htx⟩ := hpoll (by simp [hagent])
    obtain ⟨hsinv, hcosv, hpwm⟩ := haudio (by simp [hagent])
    exact ⟨hkstate, hktimer, hflags, htx, hmaddr, hsinv, hcosv, hpwm, hms (by simp [hagent]),
      exec_trace_of_not_pollLoop (by simp [hagent]) h⟩
  · rcases execSetwpm_cases n s with ⟨_, _, e⟩ | ⟨_, e⟩ <;> cases e.symm.trans h
    obtain ⟨hwaiting, hended⟩ := sendPollEndsTheElement _ x (hseq.setwpm n) hk
    refine ⟨fun hwait => (hwaiting hwait).1, fun hpassed => ?_⟩
    obtain ⟨u, hu, _, rfl⟩ := hended hpassed
    exact ⟨_, hu, rfl, by simp⟩

end Sys2Proof.Machine
end

section
/-! PROOFS. The events of an operation (41_paddle_reader_tick.md R133, R135; 42_keyer_fsm.md R148, R149;
43_morse_decoder.md R173). -/

namespace Sys2Proof.Machine

/-- One reading emits `ACTIVITY` or nothing (R133). -/
theorem readerEvents_cases (d h : Bool) : readerEvents d h = [] ∨ readerEvents d h = [.activity] := by
  unfold readerEvents
  split
  · exact .inr rfl
  · exact .inl rfl

/-- What the end of a letter emits, by the address and the record flag (R173). -/
theorem resolveEvents_cases (p : Params) (a : Byte) (record : Bool) :
    resolveEvents p a record = [] ∨ (resolveEvents p a record = [.clrline] ∧ a = 0) ∨
      (a ≠ 0 ∧ ((record = false ∧ ∃ c, resolveEvents p a record = [.char c]) ∨
        (record = true ∧ ∃ c, resolveEvents p a record = [.char c, .record c]))) := by
  by_cases h0 : a = 0
  · subst h0
    exact .inr (.inl ⟨resolveEvents_zero p record, rfl⟩)
  by_cases hpro : IsProsign p a
  · exact .inl (resolveEvents_of_isProsign record hpro)
  have e := resolveEvents_of_printing record h0 hpro
  cases record with
  | false => exact .inr (.inr ⟨h0, .inl ⟨rfl, _, e⟩⟩)
  | true => exact .inr (.inr ⟨h0, .inr ⟨rfl, _, e⟩⟩)

/-- Settles O52: by the branch of the sequencer; the branches with a reading are those of `ReaderRuns`. -/
theorem eventsAreAppendedByPolls : Obligations.EventsAreAppendedByPolls := by
  intro i s t h
  by_cases hagent : agentOf i = .pollLoop
  case neg => exact ⟨[], by rw [exec_trace_of_not_pollLoop hagent h, List.append_nil], .inl rfl⟩
  obtain ⟨_, x, ⟨hmode, rfl⟩ | ⟨hmode, m⟩⟩ := exec_pollLoop_next_cases hagent h
  · exact ⟨_, rfl, (readerEvents_cases _ _).imp_right fun he => ⟨hagent, .inl ⟨he, .inl hmode⟩⟩⟩
  cases m with
  | idleKey hk => exact ⟨_, rfl, (readerEvents_cases _ _).imp_right fun he => ⟨hagent, .inl ⟨he, .inr (.inl hk)⟩⟩⟩
  | gapKey hk hwait | gapQuiet hk hwait =>
    exact ⟨_, rfl, (readerEvents_cases _ _).imp_right fun he => ⟨hagent, .inl ⟨he, .inr (.inr ⟨hk, hwait⟩)⟩⟩⟩
  | letterEnd hk hpassed =>
    exact ⟨_, rfl, (resolveEvents_cases _ _ _).imp_right fun he =>
      ⟨hagent, .inr ⟨hmode, hpassed, .inr ⟨hk, rfl, he⟩⟩⟩⟩
  | wordEnd hk hpassed => exact ⟨_, rfl, .inr ⟨hagent, .inr ⟨hmode, hpassed, .inl ⟨rfl, hk, rfl⟩⟩⟩⟩
  | idleQuiet | element | noElement | waiting | keyUp | memory | letterGap =>
    exact ⟨[], (List.append_nil _).symm, .inl rfl⟩

end Sys2Proof.Machine
end

section
/-! PROOFS. The sequencer as a whole: its transitions and what crosses them (42_keyer_fsm.md R152 to R155). -/

namespace Sys2Proof.Machine

/-- Settles O23: a configured row is refused only when another arm is selected. -/
theorem unselectedArmsAreRefused : Obligations.UnselectedArmsAreRefused := by
  intro s x arm hconf hne
  rw [exec_armOp]
  rcases armWith_cases Config.params arm x s with ⟨_, hsel, _⟩ | ⟨_, _, e⟩ | ⟨hnot, _⟩
  · exact absurd hsel.symm hne
  · exact e
  · exact absurd hconf hnot

/-! ### The transitions -/

/-- A move of the sequencer keeps `kstate` or makes one of the transitions of R152. -/
theorem SequencedMove.kstate_cases {p : Params} {x : Samples} {s t : State} (m : SequencedMove p x s t) :
    t.kstate = s.kstate ∨ (s.kstate, t.kstate) ∈ promptMoves ∨
      ((s.kstate, t.kstate) ∈ timedMoves ∧ s.ktimer.toNat < s.tick.toNat) := by
  cases m with
  | idleQuiet | waiting | gapQuiet => exact .inl rfl
  | idleKey hk | element hk | noElement hk => exact .inr (.inl (by simp [hk, elementStarted, promptMoves]))
  | gapKey hk => exact .inr (.inl (by rcases hk with hk | hk <;> simp [hk, promptMoves]))
  | keyUp hk hpassed | memory hk hpassed | letterGap hk hpassed | letterEnd hk hpassed | wordEnd hk hpassed =>
    exact .inr (.inr ⟨by simp [hk, elementStarted, timedMoves], hpassed⟩)

/-- Every change of `kstate` but that of `RESET` is a move of the sequencer: the other agents do not write it (O51),
and Straight mode keeps it (R143). -/
theorem sequencedMove_of_kstate_ne {i : Instr} {s t : State} (h : exec i s = .next t) (hreset : i ≠ .reset)
    (hne : t.kstate ≠ s.kstate) :
    agentOf i = .pollLoop ∧ s.mode ≠ .straight ∧ ∃ x, SequencedMove Config.params x s t := by
  by_cases hagent : agentOf i = .pollLoop
  case neg =>
    obtain ⟨_, hkeyer, _⟩ := eachContextWritesOnlyItsRegisters i s t h hreset
    obtain ⟨hkstate, _⟩ := hkeyer hagent
    exact absurd hkstate hne
  obtain ⟨_, x, ⟨_, rfl⟩ | ⟨hmode, m⟩⟩ := exec_pollLoop_next_cases hagent h
  · exact absurd rfl hne
  · exact ⟨hagent, hmode, x, m⟩

/-- Settles O32: by the moves of the sequencer. -/
theorem sequencerMovesOnlyAsListed : Obligations.SequencerMovesOnlyAsListed := by
  intro i s t h hreset hne
  obtain ⟨hagent, hmode, _, m⟩ := sequencedMove_of_kstate_ne h hreset hne
  exact ⟨hagent, hmode, m.kstate_cases.resolve_left hne⟩

/-- A move into `Idle` or `WGap`, but for the last branch of `Eval`, ends a letter or a word (R155). -/
theorem SequencedMove.boundary_clears {p : Params} {x : Samples} {s t : State} (m : SequencedMove p x s t)
    (hne : t.kstate ≠ s.kstate) (heval : s.kstate ≠ .eval) (hto : t.kstate = .idle ∨ t.kstate = .wgap) :
    t.flags = Flags.clear ∧ t.maddr = sentinel := by
  cases m with
  | letterEnd | wordEnd => exact ⟨rfl, rfl⟩
  | idleQuiet | waiting | gapQuiet => exact absurd rfl hne
  | element hk | noElement hk => exact absurd hk heval
  | idleKey | gapKey | keyUp | memory | letterGap => rcases hto with hto | hto <;> cases hto

/-- Settles O33: `RESET` clears both, and any other entry is a move of the sequencer. -/
theorem boundariesClearTheFlags : Obligations.BoundariesClearTheFlags := by
  intro i s t h hne heval hto
  by_cases hreset : i = .reset
  · subst hreset
    cases h
    exact ⟨Flags.clear_bits, rfl⟩
  · obtain ⟨_, _, _, m⟩ := sequencedMove_of_kstate_ne h hreset hne
    obtain ⟨hflags, hmaddr⟩ := m.boundary_clears hne heval hto
    exact ⟨hflags ▸ Flags.clear_bits, hmaddr⟩

/-! ### The transmit flag -/

/-- Between states other than `Send` the transmit flag is kept up. -/
theorem State.KeyedOnlyInSend.of_tx_eq {s t : State} (h : s.KeyedOnlyInSend) (hs : s.kstate ≠ .send)
    (htx : t.tx = s.tx) (ht : t.kstate ≠ .send) : t.KeyedOnlyInSend :=
  iff_of_false (fun hon => hs (h.mp (htx.symm.trans hon))) ht

theorem SequencedMove.keyedOnlyInSend {p : Params} {x : Samples} {s t : State} (m : SequencedMove p x s t)
    (h : s.KeyedOnlyInSend) : t.KeyedOnlyInSend := by
  cases m with
  | element | memory => exact iff_of_true rfl rfl
  | keyUp => exact iff_of_false Bool.false_ne_true nofun
  | idleQuiet | waiting | gapQuiet => exact h
  | idleKey hk | noElement hk | letterGap hk | letterEnd hk | wordEnd hk =>
    exact h.of_tx_eq (by rw [hk]; nofun) rfl nofun
  | gapKey hk => exact h.of_tx_eq (by rcases hk with hk | hk <;> rw [hk] <;> nofun) rfl nofun

/-- Settles O56: the moves of the sequencer key in `Send` alone, and of the other agents only `RESET` writes either
register. -/
theorem keyedOnlyInSendIsKept : Obligations.KeyedOnlyInSendIsKept := by
  intro i s t hkeyed hmode h
  by_cases hagent : agentOf i = .pollLoop
  · obtain ⟨_, x, ⟨hstraight, _⟩ | ⟨_, m⟩⟩ := exec_pollLoop_next_cases hagent h
    · exact absurd hstraight (hmode hagent)
    · exact m.keyedOnlyInSend hkeyed
  by_cases hreset : i = .reset
  · subst hreset
    cases h
    exact iff_of_false Bool.false_ne_true nofun
  · obtain ⟨_, hkeyer, _⟩ := eachContextWritesOnlyItsRegisters i s t h hreset
    obtain ⟨hkstate, _, _, _, htx⟩ := hkeyer hagent
    rwa [State.KeyedOnlyInSend, hkstate, htx]

/-! ### Polls without a paddle -/

/-- Settles O34: the quiet branch of `Idle` writes constants, so a second one changes nothing. -/
theorem idlePollingIsIdempotent : Obligations.IdlePollingIsIdempotent := by
  intro s x y hseq hk hx hy
  obtain ⟨_, hquiet⟩ := idlePollWaitsForAKey s x hseq hk
  obtain ⟨hfirst, _⟩ := hquiet hx
  obtain ⟨_, hquiet'⟩ := idlePollWaitsForAKey { s with flags := ⟨false, false, false, false⟩, maddr := 1 } y hseq hk
  obtain ⟨hsecond, _⟩ := hquiet' hy
  exact ⟨_, hfirst, hk, Flags.clear_bits, hsecond⟩

theorem remaining_le_seven (s : State) : remaining s ≤ 7 := by
  unfold remaining
  cases s.kstate <;> cases memoryPending s <;> decide

theorem remaining_eq_zero_iff (s : State) : remaining s = 0 ↔ s.kstate = .idle := by
  unfold remaining
  cases s.kstate <;> cases memoryPending s <;> decide

section
variable {s : State}

theorem remaining_of_eval (hk : s.kstate = .eval) : remaining s = if memoryPending s = true then 7 else 5 := by
  rw [remaining, hk]

theorem remaining_of_send (hk : s.kstate = .send) : remaining s = if memoryPending s = true then 6 else 4 := by
  rw [remaining, hk]

theorem remaining_of_ieg (hk : s.kstate = .ieg) : remaining s = if memoryPending s = true then 5 else 3 := by
  rw [remaining, hk]

end

/-- With no paddle, a move whose deadline has passed brings the sequencer nearer to `Idle` (R154). -/
theorem SequencedMove.remaining_lt {p : Params} {x : Samples} {s t : State} (m : SequencedMove p x s t)
    (hquiet : ¬ x.Pressed) (hidle : s.kstate ≠ .idle)
    (hdue : readsDeadline s.kstate = true → s.ktimer.toNat < s.tick.toNat) : remaining t < remaining s := by
  cases m with
  | idleKey hk | idleQuiet hk => exact absurd hk hidle
  | gapKey _ _ hp => exact absurd hp hquiet
  | waiting hk hwait | gapQuiet hk hwait =>
    exact absurd (hdue (by rcases hk with hk | hk <;> rw [hk] <;> rfl)) hwait.not_gt
  | element hk =>
    rw [remaining_of_eval hk, remaining_of_send rfl]
    change (if memoryPending s = true then 6 else 4) < if memoryPending s = true then 7 else 5
    split <;> decide
  | keyUp hk =>
    rw [remaining_of_send hk, remaining_of_ieg rfl]
    change (if memoryPending s = true then 5 else 3) < if memoryPending s = true then 6 else 4
    split <;> decide
  | noElement =>
    rw [(remaining_eq_zero_iff _).mpr rfl]
    exact Nat.pos_of_ne_zero fun h0 => hidle ((remaining_eq_zero_iff s).mp h0)
  | memory hk _ hmode hsqz =>
    rw [remaining_of_ieg hk, remaining_of_send rfl]
    simp [memoryPending, elementStarted, hmode, hsqz]
  | letterGap hk =>
    rw [remaining_of_ieg hk]
    change 2 < _
    split <;> decide
  | letterEnd hk | wordEnd hk => simp [remaining, hk]

/-- Settles O37: by the moves of the sequencer, with O56 for the transmit flag. -/
theorem quietPollsReachIdleWithinSeven : Obligations.QuietPollsReachIdleWithinSeven := by
  refine ⟨fun s => ⟨remaining_le_seven s, remaining_eq_zero_iff s⟩, fun s x hseq hquiet hidle hdue => ?_⟩
  obtain ⟨hconf, hmode⟩ := hseq
  obtain ⟨hexec, _⟩ := exec_pollOp_next (x := x) hconf
  refine ⟨_, hexec, (sequencedMove_runArm _ x hmode).remaining_lt hquiet hidle hdue, fun hkeyed hto => ?_⟩
  have hkept := keyedOnlyInSendIsKept _ s _ hkeyed (fun _ => hmode) hexec
  exact Bool.eq_false_iff.mpr fun hon => by simp [hkept.mp hon] at hto

/-! ### The squeeze (R153) -/

/-- Settles O35: Iambic-A has no memory; Iambic-B uses its up with the one element, so that the next gap finds none. -/
theorem iambicMemorySendsExactlyOneElement : Obligations.IambicMemorySendsExactlyOneElement := by
  intro s x hseq hk hsqz hpassed
  obtain ⟨hexec, _⟩ := exec_ieg (x := x) hseq hk
  refine ⟨fun hmode => ?_, fun hmode => ?_⟩
  · rw [armIeg_of_no_memory hpassed (.inl (by rw [hmode]; nofun))] at hexec
    exact ⟨_, hexec, rfl, rfl, rfl⟩
  · rw [armIeg_of_memory hpassed hmode hsqz] at hexec
    refine ⟨_, hexec, rfl, rfl, rfl, fun u y hseq' _ hk' hflags hpassed' => ?_⟩
    obtain ⟨hexec', _⟩ := exec_ieg (x := y) hseq' hk'
    rw [armIeg_of_no_memory hpassed' (.inr (by rw [hflags]; rfl))] at hexec'
    exact ⟨_, hexec', rfl⟩

/-- The address of a started element ends in its symbol (43_morse_decoder.md R171). -/
theorem elementStarted_maddr_getLsbD (sym : Symbol) (f : Flags) (s : State) :
    (elementStarted sym f s).maddr.getLsbD 0 = decide (sym = .dah) := by
  rw [elementStarted, BitVec.getLsbD_ofNat]
  cases sym <;> simp

/-- Settles O36: the squeeze branch of Ultimatic keeps the flags, and they alone choose its symbol. -/
theorem ultimaticNeverAlternates : Obligations.UltimaticNeverAlternates := by
  intro s u x y hseq hseq' hmode hmode' hk hk' hsqz
  have hchoice (f : Flags) : decide (symbolOpposite f = .dah) = f.wasdit := by
    cases hlast : f.wasdit <;> simp [symbolOpposite, hlast]
  obtain ⟨hexec, _⟩ := exec_eval (x := x) hseq hk
  rw [armEval_of_squeeze_ultimatic hsqz hmode] at hexec
  refine ⟨_, hexec, rfl, (elementStarted_maddr_getLsbD _ _ _).trans (hchoice _), fun hflags => ?_⟩
  have hflags : u.flags = s.flags := hflags
  obtain ⟨hexec', _⟩ := exec_eval (x := y) hseq' hk'
  rw [armEval_of_squeeze_ultimatic (by rw [hflags, hsqz]) hmode'] at hexec'
  exact ⟨_, hexec', by rw [elementStarted_maddr_getLsbD, elementStarted_maddr_getLsbD, hflags]⟩

end Sys2Proof.Machine
end

section
/-! PROOFS. The deadline in runs: the reference schedule, and the hazards of the 32-bit wrap
(70_reset_and_hazards.md R240, R242, R247). -/

namespace Sys2Proof.Machine

/-! ### Runs of operations -/

theorem execAll_append {is : List Instr} {s t : State} (js : List Instr) (h : execAll is s = .next t) :
    execAll (is ++ js) s = execAll js t := by
  induction is generalizing s with
  | nil => cases h; rfl
  | cons i is ih =>
    simp only [execAll, List.cons_append] at h ⊢
    split at h
    · exact ih h
    · cases h
    · cases h

theorem execAll_singleton (i : Instr) (s : State) : execAll [i] s = exec i s := by
  simp only [execAll]
  split <;> next e => exact e.symm

/-- A run that goes on goes on at its first operation. -/
theorem execAll_cons_next {i : Instr} {is : List Instr} {s t : State} (h : execAll (i :: is) s = .next t) :
    ∃ u, exec i s = .next u ∧ execAll is u = .next t := by
  simp only [execAll] at h
  split at h
  · next u hu => exact ⟨u, hu, h⟩
  · cases h
  · cases h

theorem runPolls_succ (n : Nat) (poll : Instr) : runPolls (n + 1) poll = runPolls n poll ++ [.mstick, poll] := by
  induction n with
  | zero => rfl
  | succ n ih => exact congrArg (.mstick :: poll :: ·) ih

/-! ### The reference schedule -/

/-- The state `n` ticks later, with nothing else changed. -/
def State.later (s : State) (n : Nat) : State := { s with tick := BitVec.ofNat 32 (s.tick.toNat + n) }

theorem State.later_zero (s : State) : s.later 0 = s := by
  rw [State.later, Nat.add_zero, BitVec.ofNat_toNat, BitVec.setWidth_eq]

theorem State.later_tick_toNat {s : State} {n : Nat} (h : s.tick.toNat + n < 4294967296) :
    (s.later n).tick.toNat = s.tick.toNat + n :=
  (BitVec.toNat_ofNat _ 32).trans (Nat.mod_eq_of_lt h)

theorem exec_mstick_later (s : State) (n : Nat) : exec .mstick (s.later n) = .next (s.later (n + 1)) := by
  have htick : wrap32 ((s.later n).tick.toNat + 1) = (s.later (n + 1)).tick := by
    apply BitVec.eq_of_toNat_eq
    simp only [State.later, wrap32_toNat, BitVec.toNat_ofNat]
    omega
  rw [exec_mstick, htick]
  rfl

/-- While the polls change nothing, the next round is the poll one tick later. -/
theorem execAll_runPolls_succ {s : State} {n : Nat} {poll : Instr} {o : Host.Outcome State Fault Refusal}
    (h : execAll (runPolls n poll) s = .next (s.later n)) (hpoll : exec poll (s.later (n + 1)) = o) :
    execAll (runPolls (n + 1) poll) s = o := by
  rw [runPolls_succ, execAll_append _ h, ← hpoll, ← execAll_singleton, execAll, exec_mstick_later]

/-- An element is keyed for as many rounds as its deadline is ticks away (R242). -/
theorem execAll_runPolls_while_sending {s : State} {x : Samples} {d : Nat} (hseq : s.Sequenced) (hk : s.kstate = .send)
    (hd : s.ktimer.toNat = s.tick.toNat + d) (hwrap : s.tick.toNat + d + 1 < 4294967296) {n : Nat} (hn : n ≤ d) :
    execAll (runPolls n (pollOp x)) s = .next (s.later n) := by
  induction n with
  | zero => rw [s.later_zero]; rfl
  | succ n ih =>
    obtain ⟨hwaiting, _⟩ := sendPollEndsTheElement (s.later (n + 1)) x hseq hk
    have hwait : (s.later (n + 1)).tick.toNat ≤ s.ktimer.toNat := by
      rw [State.later_tick_toNat (by omega)]
      omega
    obtain ⟨hpoll, _⟩ := hwaiting hwait
    exact execAll_runPolls_succ (ih (by omega)) hpoll

/-- Settles O38: the first `d` rounds find the deadline not yet passed, and round `d + 1` finds it passed. -/
theorem keyDownLastsOneTickMoreThanItsDuration : Obligations.KeyDownLastsOneTickMoreThanItsDuration := by
  intro s x d hseq hk _ hd hwrap
  have hkeyed {n : Nat} (hn : n ≤ d) := execAll_runPolls_while_sending (x := x) hseq hk hd hwrap hn
  refine ⟨fun n hn => hkeyed hn, ?_⟩
  have htick : (s.later (d + 1)).tick.toNat = s.tick.toNat + d + 1 := State.later_tick_toNat hwrap
  obtain ⟨_, hended⟩ := sendPollEndsTheElement (s.later (d + 1)) x hseq hk
  obtain ⟨t, hpoll, _, rfl⟩ := hended (by rw [htick]; exact hd ▸ Nat.lt_succ_self _)
  exact ⟨_, execAll_runPolls_succ (hkeyed le_rfl) hpoll, rfl, rfl, htick⟩

/-! ### A deadline that never passes -/

/-- Until its deadline passes, an element or the gap after it is not changed by a poll (42_keyer_fsm.md R146, R147). -/
theorem SequencedMove.eq_of_waiting {p : Params} {x : Samples} {s t : State} (m : SequencedMove p x s t)
    (hk : s.kstate = .send ∨ s.kstate = .ieg) (hwait : s.tick.toNat ≤ s.ktimer.toNat) : t = s := by
  cases m with
  | waiting => rfl
  | keyUp _ hpassed | memory _ hpassed | letterGap _ hpassed | letterEnd _ hpassed | wordEnd _ hpassed =>
    exact absurd hwait hpassed.not_ge
  | idleKey h | idleQuiet h | element h | noElement h => simp [h] at hk
  | gapKey h | gapQuiet h => rcases h with h | h <;> simp [h] at hk

/-- `mode` is written by `SETMODE` and `RESET` alone. -/
theorem exec_mode {i : Instr} {s t : State} (h : exec i s = .next t) (hreset : i ≠ .reset) :
    t.mode = s.mode ∨ i = .setmode t.mode := by
  rcases exec_next_cases h with ⟨_, _, x, rfl⟩ | ⟨_, rfl⟩ | ⟨_, _, rfl⟩ | ⟨_, _, _, _, rfl⟩ | ⟨_, _, _, rfl⟩ |
    ⟨_, rfl, rfl⟩ | ⟨_, _, rfl⟩ | ⟨_, _, rfl⟩ | ⟨_, _, _, rfl⟩ | ⟨_, _, rfl⟩ | ⟨hr, _⟩
  any_goals exact .inl rfl
  · obtain ⟨k, f, d, b, a, tr, e⟩ := runArm_frame Config.params (selectArm s.mode s.kstate) x s
    exact .inl (by rw [e])
  · exact .inr rfl
  · exact absurd hr hreset

/-- One operation of the run: the greatest deadline has not passed, whatever `tick` holds (R240 (c)). -/
theorem exec_keeps_deadline_all_ones {i : Instr} {s t : State} (h : exec i s = .next t) (hreset : i ≠ .reset)
    (hstraight : i ≠ .setmode .straight) (hmode : s.mode ≠ .straight) (hk : s.kstate = .send ∨ s.kstate = .ieg)
    (hones : s.ktimer = 0xFFFFFFFF) :
    t.kstate = s.kstate ∧ t.tx = s.tx ∧ t.ktimer = s.ktimer ∧ t.mode ≠ .straight := by
  have hmode' : t.mode ≠ .straight := by
    rcases exec_mode h hreset with e | e
    · rwa [e]
    · rintro hm
      exact hstraight (hm ▸ e)
  by_cases hagent : agentOf i = .pollLoop
  · obtain ⟨_, x, ⟨hm, _⟩ | ⟨_, m⟩⟩ := exec_pollLoop_next_cases hagent h
    · exact absurd hm hmode
    · have hwait : s.tick.toNat ≤ s.ktimer.toNat := by
        rw [hones]
        exact Nat.le_of_lt_succ s.tick.isLt
      obtain rfl := m.eq_of_waiting hk hwait
      exact ⟨rfl, rfl, rfl, hmode⟩
  · obtain ⟨_, hkeyer, _⟩ := eachContextWritesOnlyItsRegisters i s t h hreset
    obtain ⟨hkstate, _, hktimer, _, htx⟩ := hkeyer hagent
    exact ⟨hkstate, htx, hktimer, hmode'⟩

/-- Settles O39: by induction on the run. -/
theorem deadlineAllOnesNeverPasses : Obligations.DeadlineAllOnesNeverPasses := by
  intro is
  induction is with
  | nil =>
    intro s t _ hmode _ hones h
    cases h
    exact ⟨rfl, rfl, hones, hmode⟩
  | cons i is ih =>
    intro s t hrun hmode hk hones h
    obtain ⟨u, hu, hrest⟩ := execAll_cons_next h
    obtain ⟨hreset, hstraight⟩ := hrun i List.mem_cons_self
    obtain ⟨hkstate, htx, hktimer, hmode'⟩ := exec_keeps_deadline_all_ones hu hreset hstraight hmode hk hones
    rw [← hkstate, ← htx]
    exact ih u t (fun j hj => hrun j (List.mem_cons_of_mem i hj)) hmode' (hkstate ▸ hk) (hktimer.trans hones) hrest

/-! ### A deadline that wraps -/

/-- A deadline that wraps has passed already when it is set: a duration is far shorter than the counter's period
(R240 (b)). -/
theorem deadline_lt_of_wrap {now : Tick} {d : Duration} (h : 4294967296 ≤ now.toNat + d.toNat) :
    (deadline now d).toNat < now.toNat := by
  have hd := d.isLt
  have hnow := now.isLt
  rw [deadline, wrap32_toNat]
  omega

/-- A move into `Send` is the start of an element. -/
theorem SequencedMove.elementStarted_of_send {p : Params} {x : Samples} {s t : State} (m : SequencedMove p x s t)
    (hs : s.kstate ≠ .send) (ht : t.kstate = .send) : ∃ sym f, t = elementStarted sym f s := by
  cases m with
  | element | memory => exact ⟨_, _, rfl⟩
  | idleQuiet | waiting | gapQuiet => exact absurd ht hs
  | idleKey | noElement | keyUp | letterGap | gapKey | letterEnd | wordEnd => cases ht

/-- Settles O40: the address ends in the symbol of the element, so its own duration is the one that wraps. -/
theorem wrappedDeadlineEndsAtOnce : Obligations.WrappedDeadlineEndsAtOnce := by
  intro s t x y hs h ht hdit hdah
  obtain ⟨hconf, ⟨_, rfl⟩ | ⟨hmode, m⟩⟩ := exec_pollOp_next_cases h
  · exact absurd ht hs
  obtain ⟨sym, f, rfl⟩ := m.elementStarted_of_send hs ht
  rw [elementStarted_maddr_getLsbD] at hdit hdah
  have hpassed : (elementStarted sym f s).ktimer.toNat < s.tick.toNat := by
    cases sym with
    | dit => exact deadline_lt_of_wrap (hdit rfl)
    | dah => exact deadline_lt_of_wrap (hdah rfl)
  obtain ⟨_, hended⟩ := sendPollEndsTheElement (elementStarted sym f s) y ⟨hconf, hmode⟩ rfl
  obtain ⟨u, hu, _, rfl⟩ := hended hpassed
  exact ⟨_, hu, rfl, rfl, rfl⟩

/-- A `POLL` writes no configuration, so it leaves a sequenced machine sequenced (20_memory.md R67). -/
theorem State.Sequenced.of_exec_pollOp {x : Samples} {s t : State} (hseq : s.Sequenced)
    (h : exec (pollOp x) s = .next t) : t.Sequenced := by
  obtain ⟨_, _, _, _, _, _, rfl⟩ := exec_pollOp_frame h
  exact hseq

/-- Settles O58: each gap is entered by one move, with its own duration, and its arm tests the deadline first. -/
theorem wrappedGapEndsAtOnce : Obligations.WrappedGapEndsAtOnce := by
  intro s t x y h hne
  obtain ⟨hconf, ⟨_, rfl⟩ | ⟨hmode, m⟩⟩ := exec_pollOp_next_cases h
  · exact absurd rfl hne
  have hseq : t.Sequenced := State.Sequenced.of_exec_pollOp ⟨hconf, hmode⟩ h
  cases m with
  | keyUp =>
    refine ⟨fun hk hwrap => ?_, nofun, nofun⟩
    have hpassed := deadline_lt_of_wrap hwrap
    obtain ⟨hexec, _⟩ := exec_ieg (x := y) hseq hk
    refine ⟨_, hexec, ?_⟩
    rcases armIeg_cases _ with ⟨_, _, _, e⟩ | ⟨_, _, e⟩ | ⟨hwait, _⟩
    · rw [e]; exact ⟨.inr rfl, rfl⟩
    · rw [e]; exact ⟨.inl rfl, rfl⟩
    · exact absurd hwait hpassed.not_ge
  | letterGap =>
    refine ⟨nofun, fun hk hwrap => ?_, nofun⟩
    obtain ⟨hexec, _⟩ := exec_lgap (x := y) hseq hk
    rw [armLgap_of_passed _ y (deadline_lt_of_wrap hwrap)] at hexec
    exact ⟨_, hexec, rfl, rfl⟩
  | letterEnd =>
    refine ⟨nofun, nofun, fun hk hwrap => ?_⟩
    obtain ⟨hexec, _⟩ := exec_wgap (x := y) hseq hk
    rw [armWgap_of_passed y (deadline_lt_of_wrap hwrap)] at hexec
    exact ⟨_, hexec, rfl, rfl⟩
  | idleQuiet | waiting | gapQuiet => exact absurd rfl hne
  | idleKey | element | noElement | memory | gapKey | wordEnd => exact ⟨nofun, nofun, nofun⟩

end Sys2Proof.Machine
end

section
/-! PROOFS. The proportions of a valid profile (40_timing_profile_config.md R112, R114). -/

namespace Sys2Proof.Machine

section
variable {n : Nat}

theorem dit_bounds (hlo : 10 ≤ n) (hhi : n ≤ 60) : 20 ≤ 1200 / n ∧ 1200 / n ≤ 120 :=
  ⟨(Nat.le_div_iff_mul_le (by omega)).mpr (by omega), Nat.div_le_of_le_mul (by omega)⟩

/-- The decode letter gap, truncated once, stays strictly between two and three truncated dits (R112). -/
theorem letterGap_bounds (hlo : 10 ≤ n) (hhi : n ≤ 60) :
    2 * (1200 / n) < 5 * 1200 / (2 * n) ∧ 5 * 1200 / (2 * n) < 3 * (1200 / n) := by
  have hbelow : n * (1200 / n) ≤ 1200 := Nat.mul_div_le 1200 n
  have habove : 1200 < n * (1200 / n) + n := Nat.lt_mul_div_succ 1200 (by omega)
  constructor
  · rw [← Nat.succ_le_iff, Nat.le_div_iff_mul_le (by omega)]
    linarith
  · rw [Nat.div_lt_iff_lt_mul (by omega)]
    linarith

end

/-- Settles O15: the invariant gives a valid profile its speed, and the durations of a legal speed do not wrap. -/
theorem profilesHaveTheirProportions : Obligations.ProfilesHaveTheirProportions := by
  intro s hinv hvalid
  obtain ⟨hlo, hhi, hprofile⟩ := hinv.speed (hinv.validProfile.symm.trans hvalid)
  obtain ⟨hmin, hmax⟩ := dit_bounds hlo hhi
  obtain ⟨hgapLo, hgapHi⟩ := letterGap_bounds hlo hhi
  rw [hprofile]
  simp only [profileOf_tDit_toNat, profileOf_tDah_toNat, profileOf_tLgapDec_toNat, profileOf_tWgapSend_toNat]
  exact ⟨trivial, rfl, trivial, rfl, rfl, hmin, hmax, hgapLo, hgapHi⟩

end Sys2Proof.Machine
end

section
/-! PROOFS. The characters the source fixes, and the address 0 (20_memory.md R62, 43_morse_decoder.md R172). -/

namespace Sys2Proof.Machine

/-- An address with a fixed place in the table prints the character that stands there. -/
theorem resolveEvents_of_fixed (p : Params) {a c : Byte} {k : Fin 128} (ha : a ∈ ([0, 1, 2, 3, 5] : List Byte))
    (h0 : a ≠ 0) (hk : a.toNat = k) (hc : p.decodeTable k = c) : resolveEvents p a false = [.char c] := by
  have hlt : a.toNat < 128 := hk ▸ k.isLt
  have hplace : (⟨a.toNat, hlt⟩ : Fin 128) = k := Fin.ext hk
  rw [resolveEvents_of_printing false h0 (not_isProsign_of_reserved p ha), resolveChar_of_lt p hlt, hplace, hc]
  rfl

/-- Settles O42: the symbols lead to the addresses 2, 3 and 5, whose characters R62 fixes. -/
theorem fixedCharactersResolve : Obligations.FixedCharactersResolve := by
  intro s hrecord
  rw [resolve_trace, hrecord]
  refine ⟨fun ha => ?_, fun ha => ?_, fun ha => ?_⟩ <;> rw [ha]
  · exact congrArg _ (resolveEvents_of_fixed _ (by decide) (by decide) rfl Config.params.table_dit)
  · exact congrArg _ (resolveEvents_of_fixed _ (by decide) (by decide) rfl Config.params.table_dah)
  · exact congrArg _ (resolveEvents_of_fixed _ (by decide) (by decide) rfl Config.params.table_ditdah)

theorem symbolBit_eq_zero_iff (sym : Symbol) : symbolBit sym = 0 ↔ sym = .dit := by
  cases sym <;> decide

/-- The value of a string is 0 when every bit of it is. -/
theorem symbolValue_eq_zero_iff (syms : List Symbol) : symbolValue syms = 0 ↔ ∀ sym ∈ syms, sym = .dit := by
  induction syms using List.reverseRecOn with
  | nil => simp [symbolValue]
  | append_singleton syms sym ih =>
    simp only [symbolValue_concat, Nat.add_eq_zero_iff, Nat.mul_eq_zero, ih, symbolBit_eq_zero_iff, List.mem_append,
      List.mem_singleton, OfNat.ofNat_ne_zero, false_or]
    exact ⟨fun ⟨hall, hlast⟩ x hx => hx.elim (hall x) fun hx => hx ▸ hlast,
      fun h => ⟨fun x hx => h x (.inl hx), h sym (.inr rfl)⟩⟩

/-- Settles O44: up to seven symbols the sentinel's bit is in the address; from eight on it is the value of the last
eight. -/
theorem addressZeroNeedsEightDits : Obligations.AddressZeroNeedsEightDits := by
  intro syms
  rw [← BitVec.toNat_inj, show (0 : Byte).toNat = 0 from rfl]
  by_cases hlen : 8 ≤ syms.length
  · rw [pushAll_toNat_of_long 1 hlen, symbolValue_eq_zero_iff, and_iff_right hlen]
  · have hpos : 0 < 2 ^ syms.length := Nat.two_pow_pos _
    rw [pushAll_one_toNat_of_short (by omega)]
    exact iff_of_false (by omega) fun ⟨h, _⟩ => hlen h

end Sys2Proof.Machine
end

section
/-! PROOFS. The range of the sample, and what the oscillator reads (44_sidetone_oscillator.md R185 to R192). -/

namespace Sys2Proof.Machine

/-! ### The sample -/

/-- A floor shift keeps a signed byte in its range. -/
theorem fdiv_two_pow_bounds (b : Byte) (k : Nat) :
    -128 ≤ Int.fdiv b.toInt (2 ^ k) ∧ Int.fdiv b.toInt (2 ^ k) < 128 := by
  have hlo := BitVec.le_toInt b
  have hhi := BitVec.toInt_lt (x := b)
  have hpow : (1 : Int) ≤ 2 ^ k := one_le_pow₀ (by decide)
  rw [Int.fdiv_eq_ediv_of_nonneg _ (by omega), Int.le_ediv_iff_mul_le (by omega), Int.ediv_lt_iff_lt_mul (by omega)]
  omega

/-- A shift of seven or more leaves the sign of a signed byte. -/
theorem fdiv_two_pow_of_seven_le (b : Byte) {k : Nat} (hk : 7 ≤ k) :
    Int.fdiv b.toInt (2 ^ k) = if b.toInt < 0 then -1 else 0 := by
  have hlo := BitVec.le_toInt b
  have hhi := BitVec.toInt_lt (x := b)
  have hpow : (128 : Int) ≤ 2 ^ k := pow_le_pow_right₀ (by decide : (1 : Int) ≤ 2) hk
  rw [Int.fdiv_eq_ediv_of_nonneg _ (by omega)]
  split
  · exact Int.ediv_eq_neg_one_of_neg_of_le (by omega) (by omega)
  · exact Int.ediv_eq_zero_of_lt (by omega) (by omega)

/-- Settles O47: the midpoint and a signed byte sum to an unsigned byte, so R188's wrap does nothing. -/
theorem pwmSampleNeverWraps : Obligations.PwmSampleNeverWraps := by
  intro p vol sinv
  obtain ⟨hlo, hhi⟩ := fdiv_two_pow_bounds sinv (volShift p vol)
  have hsample : ((pwmSample p vol sinv).toNat : Int) = 128 + Int.fdiv sinv.toInt (2 ^ volShift p vol) := by
    rw [pwmSample_toNat, Int.emod_eq_of_lt (by omega) (by omega)]
  refine ⟨hsample, fun hshift => ?_⟩
  rw [fdiv_two_pow_of_seven_le sinv hshift] at hsample
  split at hsample
  · next hneg => rw [if_pos hneg]; omega
  · next hneg => rw [if_neg hneg]; omega

/-! ### The oscillator's inputs -/

/-- Two states that agree on all that an `AUDIOTICK` reads (R185, R192). -/
structure SameOscillator (s t : State) : Prop where
  tx : s.tx = t.tx
  tone : s.tone = t.tone
  vol : s.vol = t.vol
  toneW : s.toneW = t.toneW
  volW : s.volW = t.volW
  sinv : s.sinv = t.sinv
  cosv : s.cosv = t.cosv

section
variable {s s' : State} (h : SameOscillator s s') (p : Params)
include h

theorem SameOscillator.audioOn :
    SameOscillator (audioOn p s) (audioOn p s') ∧ (audioOn p s).pwm = (audioOn p s').pwm := by
  refine ⟨{ h with sinv := ?_, cosv := ?_ }, ?_⟩ <;> simp [h.tone, h.vol, h.sinv, h.cosv]

end

/-- Settles O48: the inputs select the arm, and the arm writes the oscillator's registers from them. -/
theorem oscillatorReadsOnlyItsInputs : Obligations.OscillatorReadsOnlyItsInputs := by
  intro s s' t htx htone hvol htoneW hvolW hsinv hcosv hexec
  have hsame : SameOscillator s s' := ⟨htx, htone, hvol, htoneW, hvolW, hsinv, hcosv⟩
  rcases audiotickWith_cases Config.params s with ⟨hoff, e⟩ | ⟨hon, ht, hv, e⟩ | ⟨_, _, e⟩ <;> cases e.symm.trans hexec
  · exact ⟨_, exec_audiotick_off (htx ▸ hoff), rfl, rfl, rfl⟩
  · obtain ⟨hpair, hpwm⟩ := hsame.audioOn Config.params
    exact ⟨_, exec_audiotick_on (htx ▸ hon) (htoneW ▸ ht) (hvolW ▸ hv), hpair.sinv.symm, hpair.cosv.symm, hpwm.symm⟩

/-- Two bursts from states that agree on the oscillator's inputs agree sample by sample. -/
theorem SameOscillator.burst {s s' : State} (h : SameOscillator s s') (hpwm : s.pwm = s'.pwm) (htx : s.tx = true)
    (htoneW : s.toneW = true) (hvolW : s.volW = true) (n : Nat) :
    ∃ a b, execAll (audioTicks n) s = .next a ∧ execAll (audioTicks n) s' = .next b ∧ SameOscillator a b ∧
      a.pwm = b.pwm := by
  induction n generalizing s s' with
  | zero => exact ⟨s, s', rfl, rfl, h, hpwm⟩
  | succ n ih =>
    obtain ⟨hpair, hpwm'⟩ := h.audioOn Config.params
    obtain ⟨a, b, ha, hb, hab⟩ := ih hpair hpwm' htx htoneW hvolW
    refine ⟨a, b, ?_, ?_, hab⟩ <;> rw [audioTicks, List.replicate_succ, execAll]
    · rw [exec_audiotick_on htx htoneW hvolW]
      exact ha
    · rw [exec_audiotick_on (h.tx ▸ htx) (h.toneW ▸ htoneW) (h.volW ▸ hvolW)]
      exact hb

/-- Settles O49: the silent `AUDIOTICK` leaves the pair and the sample of reset. -/
theorem burstRepeatsTheColdStart : Obligations.BurstRepeatsTheColdStart := by
  intro s u tone vol n hoff hexec
  cases (exec_audiotick_off hoff).symm.trans hexec
  have hsame : SameOscillator
      { audioOff Config.params s with tx := true, tone := tone, vol := vol, toneW := true, volW := true }
      { State.reset with tx := true, tone := tone, vol := vol, toneW := true, volW := true } :=
    ⟨rfl, rfl, rfl, rfl, rfl, rfl, rfl⟩
  obtain ⟨a, b, ha, hb, hab, hpwm⟩ := hsame.burst rfl rfl rfl rfl n
  exact ⟨a, b, ha, hb, hab.sinv, hab.cosv, hpwm⟩

end Sys2Proof.Machine
end
